-- ==== Sys2Proof/Word.lean ====
section
/-! DEFINITION. The two fixed widths of the block: bytes and words (`00_scope.md` R6, R9). -/

namespace Sys2Proof

/-- A byte: an unsigned number 0..255 (R9). -/
abbrev Byte := BitVec 8

/-- A word: an unsigned number 0..65535, also a bus address (R9, R60). -/
abbrev Word := BitVec 16

end Sys2Proof
end

