-- ==== Sys2Proof/Machine/Bits.lean ====
section
/-! DEFINITION. Bit fields, byte order and sign extension (`00_scope.md` R9, R10). -/

namespace Sys2Proof

/-- `w[7:0]`. -/
def loByte (w : Word) : Byte := BitVec.ofNat 8 w.toNat

/-- `w[15:8]`. -/
def hiByte (w : Word) : Byte := BitVec.ofNat 8 (w.toNat / 256)

/-- `{h, l} = h * 256 + l` (R9). -/
def word (h l : Byte) : Word := BitVec.ofNat 16 (h.toNat * 256 + l.toNat)

/-- `sext_16(b)`: `b` if `b < 0x80`, else `b + 0xFF00` (R10). -/
def sext16 (b : Byte) : Word := if b < 0x80#8 then b.setWidth 16 else b.setWidth 16 + 0xFF00#16

/-- `zext_16(b)` (R10). -/
def zext16 (b : Byte) : Word := b.setWidth 16

/-- `f[k]`. -/
def getBit (f : Byte) (k : Nat) : Bool := f.getLsbD k

/-- `f` with `f[k] <- b`, every other bit as it was (R27). -/
def setBit (f : Byte) (k : Nat) (b : Bool) : Byte :=
  if b then f ||| (1#8 <<< k) else f &&& ~~~(1#8 <<< k)

end Sys2Proof
end

