-- ==== Sys2Proof/Syntax.lean ====
section
/-! DEFINITION. The admitted instructions: one constructor per row of `spec/opcode_table.json`, which expands the list of
`30_encoding.md` R104. Operands that an opcode byte selects are part of the constructor's name; immediates (R106, R107)
are its arguments: `n` an unsigned byte, `e` a byte to be sign-extended, `nn` a word. -/

namespace Sys2Proof

inductive Instr where
  /-- `NOP`, R235. -/
  | nop
  /-- `LD BC,nn`, R170. -/
  | ldBcNn (nn : Word)
  /-- `LD DE,nn`, R170. -/
  | ldDeNn (nn : Word)
  /-- `LD HL,nn`, R170. -/
  | ldHlNn (nn : Word)
  /-- `LD SP,nn`, R170. -/
  | ldSpNn (nn : Word)
  /-- `LD (BC),A`, R137. -/
  | ldBcIndA
  /-- `LD (DE),A`, R138. -/
  | ldDeIndA
  /-- `LD A,(BC)`, R135. -/
  | ldABcInd
  /-- `LD A,(DE)`, R136. -/
  | ldADeInd
  /-- `INC BC`, R194. -/
  | incBc
  /-- `DEC BC`, R195. -/
  | decBc
  /-- `ADD HL,BC`, R199. -/
  | addHlBc
  /-- `INC DE`, R194. -/
  | incDe
  /-- `DEC DE`, R195. -/
  | decDe
  /-- `ADD HL,DE`, R199. -/
  | addHlDe
  /-- `INC HL`, R194. -/
  | incHl
  /-- `DEC HL`, R195. -/
  | decHl
  /-- `ADD HL,HL`, R199. -/
  | addHlHl
  /-- `INC SP`, R194. -/
  | incSp
  /-- `DEC SP`, R195. -/
  | decSp
  /-- `ADD HL,SP`, R199. -/
  | addHlSp
  /-- `INC B`, R190. -/
  | incB
  /-- `DEC B`, R192. -/
  | decB
  /-- `LD B,n`, R131. -/
  | ldBN (n : Byte)
  /-- `INC C`, R190. -/
  | incC
  /-- `DEC C`, R192. -/
  | decC
  /-- `LD C,n`, R131. -/
  | ldCN (n : Byte)
  /-- `INC D`, R190. -/
  | incD
  /-- `DEC D`, R192. -/
  | decD
  /-- `LD D,n`, R131. -/
  | ldDN (n : Byte)
  /-- `INC E`, R190. -/
  | incE
  /-- `DEC E`, R192. -/
  | decE
  /-- `LD E,n`, R131. -/
  | ldEN (n : Byte)
  /-- `INC H`, R190. -/
  | incH
  /-- `DEC H`, R192. -/
  | decH
  /-- `LD H,n`, R131. -/
  | ldHN (n : Byte)
  /-- `INC L`, R190. -/
  | incL
  /-- `DEC L`, R192. -/
  | decL
  /-- `LD L,n`, R131. -/
  | ldLN (n : Byte)
  /-- `INC (HL)`, R191. -/
  | incHlInd
  /-- `DEC (HL)`, R193. -/
  | decHlInd
  /-- `LD (HL),n`, R134. -/
  | ldHlIndN (n : Byte)
  /-- `INC A`, R190. -/
  | incA
  /-- `DEC A`, R192. -/
  | decA
  /-- `LD A,n`, R131. -/
  | ldAN (n : Byte)
  /-- `JR e`, R224. -/
  | jr (e : Byte)
  /-- `JR NZ,e`, R225. -/
  | jrNz (e : Byte)
  /-- `JR Z,e`, R225. -/
  | jrZ (e : Byte)
  /-- `JR NC,e`, R225. -/
  | jrNc (e : Byte)
  /-- `JR C,e`, R225. -/
  | jrC (e : Byte)
  /-- `LD B,B`, R130. -/
  | ldBB
  /-- `LD B,C`, R130. -/
  | ldBC
  /-- `LD B,D`, R130. -/
  | ldBD
  /-- `LD B,E`, R130. -/
  | ldBE
  /-- `LD B,H`, R130. -/
  | ldBH
  /-- `LD B,L`, R130. -/
  | ldBL
  /-- `LD B,(HL)`, R132. -/
  | ldBHlInd
  /-- `LD B,A`, R130. -/
  | ldBA
  /-- `LD C,B`, R130. -/
  | ldCB
  /-- `LD C,C`, R130. -/
  | ldCC
  /-- `LD C,D`, R130. -/
  | ldCD
  /-- `LD C,E`, R130. -/
  | ldCE
  /-- `LD C,H`, R130. -/
  | ldCH
  /-- `LD C,L`, R130. -/
  | ldCL
  /-- `LD C,(HL)`, R132. -/
  | ldCHlInd
  /-- `LD C,A`, R130. -/
  | ldCA
  /-- `LD D,B`, R130. -/
  | ldDB
  /-- `LD D,C`, R130. -/
  | ldDC
  /-- `LD D,D`, R130. -/
  | ldDD
  /-- `LD D,E`, R130. -/
  | ldDE
  /-- `LD D,H`, R130. -/
  | ldDH
  /-- `LD D,L`, R130. -/
  | ldDL
  /-- `LD D,(HL)`, R132. -/
  | ldDHlInd
  /-- `LD D,A`, R130. -/
  | ldDA
  /-- `LD E,B`, R130. -/
  | ldEB
  /-- `LD E,C`, R130. -/
  | ldEC
  /-- `LD E,D`, R130. -/
  | ldED
  /-- `LD E,E`, R130. -/
  | ldEE
  /-- `LD E,H`, R130. -/
  | ldEH
  /-- `LD E,L`, R130. -/
  | ldEL
  /-- `LD E,(HL)`, R132. -/
  | ldEHlInd
  /-- `LD E,A`, R130. -/
  | ldEA
  /-- `LD H,B`, R130. -/
  | ldHB
  /-- `LD H,C`, R130. -/
  | ldHC
  /-- `LD H,D`, R130. -/
  | ldHD
  /-- `LD H,E`, R130. -/
  | ldHE
  /-- `LD H,H`, R130. -/
  | ldHH
  /-- `LD H,L`, R130. -/
  | ldHL
  /-- `LD H,(HL)`, R132. -/
  | ldHHlInd
  /-- `LD H,A`, R130. -/
  | ldHA
  /-- `LD L,B`, R130. -/
  | ldLB
  /-- `LD L,C`, R130. -/
  | ldLC
  /-- `LD L,D`, R130. -/
  | ldLD
  /-- `LD L,E`, R130. -/
  | ldLE
  /-- `LD L,H`, R130. -/
  | ldLH
  /-- `LD L,L`, R130. -/
  | ldLL
  /-- `LD L,(HL)`, R132. -/
  | ldLHlInd
  /-- `LD L,A`, R130. -/
  | ldLA
  /-- `LD (HL),B`, R133. -/
  | ldHlIndB
  /-- `LD (HL),C`, R133. -/
  | ldHlIndC
  /-- `LD (HL),D`, R133. -/
  | ldHlIndD
  /-- `LD (HL),E`, R133. -/
  | ldHlIndE
  /-- `LD (HL),H`, R133. -/
  | ldHlIndH
  /-- `LD (HL),L`, R133. -/
  | ldHlIndL
  /-- `LD (HL),A`, R133. -/
  | ldHlIndA
  /-- `LD A,B`, R130. -/
  | ldAB
  /-- `LD A,C`, R130. -/
  | ldAC
  /-- `LD A,D`, R130. -/
  | ldAD
  /-- `LD A,E`, R130. -/
  | ldAE
  /-- `LD A,H`, R130. -/
  | ldAH
  /-- `LD A,L`, R130. -/
  | ldAL
  /-- `LD A,(HL)`, R132. -/
  | ldAHlInd
  /-- `LD A,A`, R130. -/
  | ldAA
  /-- `ADD A,B`, R196. -/
  | addAB
  /-- `ADD A,C`, R196. -/
  | addAC
  /-- `ADD A,D`, R196. -/
  | addAD
  /-- `ADD A,E`, R196. -/
  | addAE
  /-- `ADD A,H`, R196. -/
  | addAH
  /-- `ADD A,L`, R196. -/
  | addAL
  /-- `ADD A,(HL)`, R197. -/
  | addAHlInd
  /-- `ADD A,A`, R196. -/
  | addAA
  /-- `ADD A,n`, R198. -/
  | addAN (n : Byte)
  /-- `RET NZ`, R229. -/
  | retNz
  /-- `JP NZ,nn`, R222. -/
  | jpNz (nn : Word)
  /-- `CALL NZ,nn`, R227. -/
  | callNz (nn : Word)
  /-- `RET Z`, R229. -/
  | retZ
  /-- `JP Z,nn`, R222. -/
  | jpZ (nn : Word)
  /-- `CALL Z,nn`, R227. -/
  | callZ (nn : Word)
  /-- `RET NC`, R229. -/
  | retNc
  /-- `JP NC,nn`, R222. -/
  | jpNc (nn : Word)
  /-- `CALL NC,nn`, R227. -/
  | callNc (nn : Word)
  /-- `RET C`, R229. -/
  | retC
  /-- `JP C,nn`, R222. -/
  | jpC (nn : Word)
  /-- `CALL C,nn`, R227. -/
  | callC (nn : Word)
  /-- `RET PO`, R229. -/
  | retPo
  /-- `JP PO,nn`, R222. -/
  | jpPo (nn : Word)
  /-- `CALL PO,nn`, R227. -/
  | callPo (nn : Word)
  /-- `RET PE`, R229. -/
  | retPe
  /-- `JP PE,nn`, R222. -/
  | jpPe (nn : Word)
  /-- `CALL PE,nn`, R227. -/
  | callPe (nn : Word)
  /-- `RET P`, R229. -/
  | retP
  /-- `JP P,nn`, R222. -/
  | jpP (nn : Word)
  /-- `CALL P,nn`, R227. -/
  | callP (nn : Word)
  /-- `RET M`, R229. -/
  | retM
  /-- `JP M,nn`, R222. -/
  | jpM (nn : Word)
  /-- `CALL M,nn`, R227. -/
  | callM (nn : Word)
  /-- `JP nn`, R221. -/
  | jp (nn : Word)
  /-- `RET`, R228. -/
  | ret
  /-- `CALL nn`, R226. -/
  | call (nn : Word)
  /-- `JP (HL)`, R223. -/
  | jpHlInd
  /-- `LD SP,HL`, R171. -/
  | ldSpHl
  /-- `DI`, R237. -/
  | di
  /-- `EI`, R238. -/
  | ei
  /-- `LD (nn),HL`, R172. -/
  | ldNnIndHl (nn : Word)
  /-- `LD HL,(nn)`, R173. -/
  | ldHlNnInd (nn : Word)
  /-- `LD (nn),A`, R141. -/
  | ldNnIndAZ80 (nn : Word)
  /-- `LD A,(nn)`, R142. -/
  | ldANnIndZ80 (nn : Word)
  /-- `LDI`, R177. -/
  | ldi
  /-- `LD (HL+),A`, R143. -/
  | ldHlIncA
  /-- `LD A,(HL+)`, R144. -/
  | ldAHlInc
  /-- `LD (HL-),A`, R145. -/
  | ldHlDecA
  /-- `LD A,(HL-)`, R146. -/
  | ldAHlDec
  /-- `RETI`, R236. -/
  | reti
  /-- `LDH (n),A`, R149. -/
  | ldhNIndA (n : Byte)
  /-- `LD (C),A`, R147. -/
  | ldCIndA
  /-- `ADD SP,n`, R200. -/
  | addSpN (e : Byte)
  /-- `LD (nn),A`, R139. -/
  | ldNnIndALr (nn : Word)
  /-- `LDH A,(n)`, R150. -/
  | ldhANInd (n : Byte)
  /-- `LD A,(C)`, R148. -/
  | ldACInd
  /-- `LD HL,SP+n`, R176. -/
  | ldHlSpN (e : Byte)
  /-- `LD A,(nn)`, R140. -/
  | ldANnIndLr (nn : Word)
  /-- `SWAP B`, R201. -/
  | swapB
  /-- `SWAP C`, R201. -/
  | swapC
  /-- `SWAP D`, R201. -/
  | swapD
  /-- `SWAP E`, R201. -/
  | swapE
  /-- `SWAP H`, R201. -/
  | swapH
  /-- `SWAP L`, R201. -/
  | swapL
  /-- `SWAP (HL)`, R202. -/
  | swapHlInd
  /-- `SWAP A`, R201. -/
  | swapA
  deriving DecidableEq, Repr

end Sys2Proof
end

