-- ==== Sys2Proof/Config.lean ====
section
/-! DEFINITION. The parameters of the machine (`00_scope.md` R6) and the values the spec leaves uninterpreted. The
parameters that are data stand in `State.config`, so that a statement about every state is about every value of them;
those that are functions are constants with no body. -/

namespace Sys2Proof

/-- `VARIANT` (R6, D3). -/
inductive Variant where
  | z80
  | lr35902
  deriving DecidableEq, Repr

/-- `LDH_OFFSET`: how the immediate of `LDH` is extended (R6, `40_load8.md` R153, conflict C4). -/
inductive LdhOffset where
  | signed
  | unsigned
  deriving DecidableEq, Repr

/-- What answers inside a registered range: a RAM window (`20_memory.md` R69), a ROM, which is a RAM window whose write
does nothing (R79, D15), the APU (`60_exceptions.md` R270), or a platform-supplied peripheral (R68, R79). -/
inductive Device where
  | ram
  | rom
  | apu
  | platform (id : Nat)
  deriving DecidableEq, Repr

/-- One entry `(first, last, device)` of `PERIPHERALS`; the range is closed (R6, R61). -/
structure Registration where
  first : Word
  last : Word
  device : Device
  deriving DecidableEq, Repr

/-- The parameters `VARIANT`, `PERIPHERALS` and `LDH_OFFSET` (R6). -/
structure Config where
  variant : Variant
  peripherals : List Registration
  ldhOffset : LdhOffset
  deriving DecidableEq, Repr

/-- One access to a platform-supplied peripheral: a read, or a write of a byte. -/
structure BusEvent where
  device : Nat
  addr : Word
  written : Option Byte
  deriving DecidableEq, Repr

/-- The byte a platform-supplied peripheral answers to a read: an uninterpreted function of the peripheral, of all its
earlier accesses (newest first; they are its "own state", `20_memory.md` R79) and of the bus address (assumption 11). -/
opaque Config.platformByte : Nat → List BusEvent → Word → Byte

/-- `cycles`: the count an instruction carries, by variant and by whether a branch was taken (R6, `70_reset_and_hazards.md`
R326, D19). No state depends on it (assumption 20). -/
opaque Config.cycles : Variant → Instr → Bool → Nat

/-- `SINK_SCALE` for the volume (R6, D24): what the raw volume 0..15 becomes for the audio sink, before it is held to the
sink's `[0,1]` by `Machine.unitRange`. No state depends on it (assumption 22). -/
opaque Config.sinkLevel : BitVec 4 → ℚ

/-- `SINK_SCALE` for the frequency (R6, D24): the Hz that the raw 11-bit frequency becomes for the audio sink, before they
are held to the sink's `hz > 0` by `Machine.positiveHz`. No state depends on it (assumption 22). -/
opaque Config.sinkHertz : BitVec 11 → ℚ

end Sys2Proof
end

