-- ==== Sys2Proof/WellFormed.lean ====
section
/-! DEFINITION. Well-formedness: which variant an instruction runs on (`30_encoding.md` R102, R104), and which
registration lists are bus maps (`20_memory.md` R61, R62; `60_exceptions.md` R270). -/

namespace Sys2Proof

/-- The decode table a row of R104 stands in: common, Z80 or LR35902 (R102). -/
inductive Table where
  | common
  | z80
  | lr35902
  deriving DecidableEq, Repr

/-- The column "Variants" of R104. -/
def Instr.table : Instr → Table
  | .nop => .common
  | .ldBcNn _ => .common
  | .ldDeNn _ => .common
  | .ldHlNn _ => .common
  | .ldSpNn _ => .common
  | .ldBcIndA => .common
  | .ldDeIndA => .common
  | .ldABcInd => .common
  | .ldADeInd => .common
  | .incBc => .common
  | .decBc => .common
  | .addHlBc => .common
  | .incDe => .common
  | .decDe => .common
  | .addHlDe => .common
  | .incHl => .common
  | .decHl => .common
  | .addHlHl => .common
  | .incSp => .common
  | .decSp => .common
  | .addHlSp => .common
  | .incB => .common
  | .decB => .common
  | .ldBN _ => .common
  | .incC => .common
  | .decC => .common
  | .ldCN _ => .common
  | .incD => .common
  | .decD => .common
  | .ldDN _ => .common
  | .incE => .common
  | .decE => .common
  | .ldEN _ => .common
  | .incH => .common
  | .decH => .common
  | .ldHN _ => .common
  | .incL => .common
  | .decL => .common
  | .ldLN _ => .common
  | .incHlInd => .common
  | .decHlInd => .common
  | .ldHlIndN _ => .common
  | .incA => .common
  | .decA => .common
  | .ldAN _ => .common
  | .jr _ => .common
  | .jrNz _ => .common
  | .jrZ _ => .common
  | .jrNc _ => .common
  | .jrC _ => .common
  | .ldBB => .common
  | .ldBC => .common
  | .ldBD => .common
  | .ldBE => .common
  | .ldBH => .common
  | .ldBL => .common
  | .ldBHlInd => .common
  | .ldBA => .common
  | .ldCB => .common
  | .ldCC => .common
  | .ldCD => .common
  | .ldCE => .common
  | .ldCH => .common
  | .ldCL => .common
  | .ldCHlInd => .common
  | .ldCA => .common
  | .ldDB => .common
  | .ldDC => .common
  | .ldDD => .common
  | .ldDE => .common
  | .ldDH => .common
  | .ldDL => .common
  | .ldDHlInd => .common
  | .ldDA => .common
  | .ldEB => .common
  | .ldEC => .common
  | .ldED => .common
  | .ldEE => .common
  | .ldEH => .common
  | .ldEL => .common
  | .ldEHlInd => .common
  | .ldEA => .common
  | .ldHB => .common
  | .ldHC => .common
  | .ldHD => .common
  | .ldHE => .common
  | .ldHH => .common
  | .ldHL => .common
  | .ldHHlInd => .common
  | .ldHA => .common
  | .ldLB => .common
  | .ldLC => .common
  | .ldLD => .common
  | .ldLE => .common
  | .ldLH => .common
  | .ldLL => .common
  | .ldLHlInd => .common
  | .ldLA => .common
  | .ldHlIndB => .common
  | .ldHlIndC => .common
  | .ldHlIndD => .common
  | .ldHlIndE => .common
  | .ldHlIndH => .common
  | .ldHlIndL => .common
  | .ldHlIndA => .common
  | .ldAB => .common
  | .ldAC => .common
  | .ldAD => .common
  | .ldAE => .common
  | .ldAH => .common
  | .ldAL => .common
  | .ldAHlInd => .common
  | .ldAA => .common
  | .addAB => .common
  | .addAC => .common
  | .addAD => .common
  | .addAE => .common
  | .addAH => .common
  | .addAL => .common
  | .addAHlInd => .common
  | .addAA => .common
  | .addAN _ => .common
  | .retNz => .common
  | .jpNz _ => .common
  | .callNz _ => .common
  | .retZ => .common
  | .jpZ _ => .common
  | .callZ _ => .common
  | .retNc => .common
  | .jpNc _ => .common
  | .callNc _ => .common
  | .retC => .common
  | .jpC _ => .common
  | .callC _ => .common
  | .retPo => .z80
  | .jpPo _ => .z80
  | .callPo _ => .z80
  | .retPe => .z80
  | .jpPe _ => .z80
  | .callPe _ => .z80
  | .retP => .z80
  | .jpP _ => .z80
  | .callP _ => .z80
  | .retM => .z80
  | .jpM _ => .z80
  | .callM _ => .z80
  | .jp _ => .common
  | .ret => .common
  | .call _ => .common
  | .jpHlInd => .common
  | .ldSpHl => .common
  | .di => .common
  | .ei => .common
  | .ldNnIndHl _ => .z80
  | .ldHlNnInd _ => .z80
  | .ldNnIndAZ80 _ => .z80
  | .ldANnIndZ80 _ => .z80
  | .ldi => .z80
  | .ldHlIncA => .lr35902
  | .ldAHlInc => .lr35902
  | .ldHlDecA => .lr35902
  | .ldAHlDec => .lr35902
  | .reti => .lr35902
  | .ldhNIndA _ => .lr35902
  | .ldCIndA => .lr35902
  | .addSpN _ => .lr35902
  | .ldNnIndALr _ => .lr35902
  | .ldhANInd _ => .lr35902
  | .ldACInd => .lr35902
  | .ldHlSpN _ => .lr35902
  | .ldANnIndLr _ => .lr35902
  | .swapB => .lr35902
  | .swapC => .lr35902
  | .swapD => .lr35902
  | .swapE => .lr35902
  | .swapH => .lr35902
  | .swapL => .lr35902
  | .swapHlInd => .lr35902
  | .swapA => .lr35902

/-- "An instruction is decoded only on a variant that carries its tag" (R102). -/
def Table.runsOn : Table → Variant → Bool
  | .common, _ => true
  | .z80, .z80 => true
  | .z80, .lr35902 => false
  | .lr35902, .z80 => false
  | .lr35902, .lr35902 => true

/-- The instruction carries the capability tag of the variant (R102). -/
def Instr.runsOn (i : Instr) (v : Variant) : Bool := i.table.runsOn v

/-- The closed ranges share an address: `f1 <= l2 and f2 <= l1` (`20_memory.md` R61). -/
def Registration.overlaps (x y : Registration) : Bool := decide (x.first ≤ y.last) && decide (y.first ≤ x.last)

/-- A range is not empty, and the APU registers exactly 0xFF10..0xFF3F (`00_scope.md` R6, `60_exceptions.md` R270). -/
def Registration.wf (x : Registration) : Bool :=
  decide (x.first ≤ x.last) &&
    match x.device with
    | .apu => x.first == 0xFF10#16 && x.last == 0xFF3F#16
    | .ram => true
    | .rom => true
    | .platform _ => true

/-- "No two registered ranges share an address" (`20_memory.md` R62). -/
abbrev disjointRanges (ps : List Registration) : Prop := ps.Pairwise fun x y => x.overlaps y = false

/-- A legal value of the parameters (`00_scope.md` R6, `20_memory.md` R61). -/
abbrev Config.wf (c : Config) : Prop := (∀ x ∈ c.peripherals, x.wf = true) ∧ disjointRanges c.peripherals

end Sys2Proof
end

