-- ==== Sys2Proof/Decode.lean ====
section
/-! DEFINITION. The decoder, total on any bytes, and the encoder (`30_encoding.md` R100 to R112). -/

namespace Sys2Proof

/-- What a first byte selects: an instruction of format OP, OP_N, OP_E or OP_NN (R100), or a second opcode page (R103). -/
inductive Entry where
  | op (i : Instr)
  | opN (mk : Byte → Instr)
  | opE (mk : Byte → Instr)
  | opNN (mk : Word → Instr)
  | cbPage
  | edPage

/-- How many bytes the format has (R100). -/
def Entry.length : Entry → Nat
  | .op _ => 1
  | .opN _ => 2
  | .opE _ => 2
  | .opNN _ => 3
  | .cbPage => 2
  | .edPage => 2

/-- Why bytes are no instruction. -/
inductive Reject where
  /-- No byte was given. -/
  | noBytes
  /-- The bytes end inside the instruction. -/
  | truncated
  /-- The first byte is in neither table of the variant (R108). -/
  | unrecognized (b0 : Byte)
  /-- The second byte is not in the CB page of the variant (R103, R108). -/
  | unrecognizedCb (b1 : Byte)
  /-- The second byte is not in the ED page (R103, R108). -/
  | unrecognizedEd (b1 : Byte)
  deriving DecidableEq, Repr

/-- The rows of R104 marked `both`, and the 0xCB page selector (R103). Part 1. -/
def commonTable1 : List (Nat × Entry) :=
  [ (0x00, .op .nop), (0x01, .opNN .ldBcNn), (0x02, .op .ldBcIndA), (0x03, .op .incBc),
    (0x04, .op .incB), (0x05, .op .decB), (0x06, .opN .ldBN), (0x09, .op .addHlBc),
    (0x0A, .op .ldABcInd), (0x0B, .op .decBc), (0x0C, .op .incC), (0x0D, .op .decC),
    (0x0E, .opN .ldCN), (0x11, .opNN .ldDeNn), (0x12, .op .ldDeIndA), (0x13, .op .incDe),
    (0x14, .op .incD), (0x15, .op .decD), (0x16, .opN .ldDN), (0x18, .opE .jr),
    (0x19, .op .addHlDe), (0x1A, .op .ldADeInd), (0x1B, .op .decDe), (0x1C, .op .incE),
    (0x1D, .op .decE), (0x1E, .opN .ldEN), (0x20, .opE .jrNz), (0x21, .opNN .ldHlNn),
    (0x23, .op .incHl), (0x24, .op .incH), (0x25, .op .decH), (0x26, .opN .ldHN) ]

/-- The rows of R104 marked `both`, and the 0xCB page selector (R103). Part 2. -/
def commonTable2 : List (Nat × Entry) :=
  [ (0x28, .opE .jrZ), (0x29, .op .addHlHl), (0x2B, .op .decHl), (0x2C, .op .incL),
    (0x2D, .op .decL), (0x2E, .opN .ldLN), (0x30, .opE .jrNc), (0x31, .opNN .ldSpNn),
    (0x33, .op .incSp), (0x34, .op .incHlInd), (0x35, .op .decHlInd), (0x36, .opN .ldHlIndN),
    (0x38, .opE .jrC), (0x39, .op .addHlSp), (0x3B, .op .decSp), (0x3C, .op .incA),
    (0x3D, .op .decA), (0x3E, .opN .ldAN), (0x40, .op .ldBB), (0x41, .op .ldBC),
    (0x42, .op .ldBD), (0x43, .op .ldBE), (0x44, .op .ldBH), (0x45, .op .ldBL),
    (0x46, .op .ldBHlInd), (0x47, .op .ldBA), (0x48, .op .ldCB), (0x49, .op .ldCC),
    (0x4A, .op .ldCD), (0x4B, .op .ldCE), (0x4C, .op .ldCH), (0x4D, .op .ldCL) ]

/-- The rows of R104 marked `both`, and the 0xCB page selector (R103). Part 3. -/
def commonTable3 : List (Nat × Entry) :=
  [ (0x4E, .op .ldCHlInd), (0x4F, .op .ldCA), (0x50, .op .ldDB), (0x51, .op .ldDC),
    (0x52, .op .ldDD), (0x53, .op .ldDE), (0x54, .op .ldDH), (0x55, .op .ldDL),
    (0x56, .op .ldDHlInd), (0x57, .op .ldDA), (0x58, .op .ldEB), (0x59, .op .ldEC),
    (0x5A, .op .ldED), (0x5B, .op .ldEE), (0x5C, .op .ldEH), (0x5D, .op .ldEL),
    (0x5E, .op .ldEHlInd), (0x5F, .op .ldEA), (0x60, .op .ldHB), (0x61, .op .ldHC),
    (0x62, .op .ldHD), (0x63, .op .ldHE), (0x64, .op .ldHH), (0x65, .op .ldHL),
    (0x66, .op .ldHHlInd), (0x67, .op .ldHA), (0x68, .op .ldLB), (0x69, .op .ldLC),
    (0x6A, .op .ldLD), (0x6B, .op .ldLE), (0x6C, .op .ldLH), (0x6D, .op .ldLL) ]

/-- The rows of R104 marked `both`, and the 0xCB page selector (R103). Part 4. -/
def commonTable4 : List (Nat × Entry) :=
  [ (0x6E, .op .ldLHlInd), (0x6F, .op .ldLA), (0x70, .op .ldHlIndB), (0x71, .op .ldHlIndC),
    (0x72, .op .ldHlIndD), (0x73, .op .ldHlIndE), (0x74, .op .ldHlIndH), (0x75, .op .ldHlIndL),
    (0x77, .op .ldHlIndA), (0x78, .op .ldAB), (0x79, .op .ldAC), (0x7A, .op .ldAD),
    (0x7B, .op .ldAE), (0x7C, .op .ldAH), (0x7D, .op .ldAL), (0x7E, .op .ldAHlInd),
    (0x7F, .op .ldAA), (0x80, .op .addAB), (0x81, .op .addAC), (0x82, .op .addAD),
    (0x83, .op .addAE), (0x84, .op .addAH), (0x85, .op .addAL), (0x86, .op .addAHlInd),
    (0x87, .op .addAA), (0xC0, .op .retNz), (0xC2, .opNN .jpNz), (0xC3, .opNN .jp),
    (0xC4, .opNN .callNz), (0xC6, .opN .addAN), (0xC8, .op .retZ), (0xC9, .op .ret) ]

/-- The rows of R104 marked `both`, and the 0xCB page selector (R103). Part 5. -/
def commonTable5 : List (Nat × Entry) :=
  [ (0xCA, .opNN .jpZ), (0xCC, .opNN .callZ), (0xCD, .opNN .call), (0xD0, .op .retNc),
    (0xD2, .opNN .jpNc), (0xD4, .opNN .callNc), (0xD8, .op .retC), (0xDA, .opNN .jpC),
    (0xDC, .opNN .callC), (0xE9, .op .jpHlInd), (0xF3, .op .di), (0xF9, .op .ldSpHl),
    (0xFB, .op .ei), (0xCB, .cbPage) ]

/-- The rows of R104 marked `both`, and the 0xCB page selector (R103). -/
def commonTable : List (Nat × Entry) :=
  commonTable1 ++ commonTable2 ++ commonTable3 ++ commonTable4 ++ commonTable5

/-- The rows of R104 marked `Z80`, and the 0xED page selector (R103). -/
def z80Table : List (Nat × Entry) :=
  [ (0x22, .opNN .ldNnIndHl), (0x2A, .opNN .ldHlNnInd), (0x32, .opNN .ldNnIndAZ80), (0x3A, .opNN .ldANnIndZ80),
    (0xE0, .op .retPo), (0xE2, .opNN .jpPo), (0xE4, .opNN .callPo), (0xE8, .op .retPe),
    (0xEA, .opNN .jpPe), (0xEC, .opNN .callPe), (0xF0, .op .retP), (0xF2, .opNN .jpP),
    (0xF4, .opNN .callP), (0xF8, .op .retM), (0xFA, .opNN .jpM), (0xFC, .opNN .callM),
    (0xED, .edPage) ]

/-- The rows of R104 marked `LR35902`. -/
def lrTable : List (Nat × Entry) :=
  [ (0x22, .op .ldHlIncA), (0x2A, .op .ldAHlInc), (0x32, .op .ldHlDecA), (0x3A, .op .ldAHlDec),
    (0xD9, .op .reti), (0xE0, .opN .ldhNIndA), (0xE2, .op .ldCIndA), (0xE8, .opE .addSpN),
    (0xEA, .opNN .ldNnIndALr), (0xF0, .opN .ldhANInd), (0xF2, .op .ldACInd), (0xF8, .opE .ldHlSpN),
    (0xFA, .opNN .ldANnIndLr) ]

/-- The CB page of the LR35902: `SWAP`, second byte 0x30..0x37 (R103). -/
def lrCbPage : List (Nat × Instr) :=
  [ (0x30, .swapB), (0x31, .swapC), (0x32, .swapD), (0x33, .swapE),
    (0x34, .swapH), (0x35, .swapL), (0x36, .swapHlInd), (0x37, .swapA) ]

/-- The variant's own table (R102). -/
def variantTable : Variant → List (Nat × Entry)
  | .z80 => z80Table
  | .lr35902 => lrTable

/-- The CB page: empty on the Z80 (R103). -/
def cbRows : Variant → List (Nat × Instr)
  | .z80 => []
  | .lr35902 => lrCbPage

/-- The ED page: `LDI` alone, Z80 only (R103). -/
def edRows : Variant → List (Nat × Instr)
  | .z80 => [(0xA0, .ldi)]
  | .lr35902 => []

/-- "The entry of V's own table if it has one for b0, else the entry of the common table, else none" (R102). -/
def lookupFirst (v : Variant) (b0 : Byte) : Option Entry :=
  match (variantTable v).lookup b0.toNat with
  | some e => some e
  | none => commonTable.lookup b0.toNat

/-- How many bytes a step reads when the first one is `b0`: one where it is unrecognised, and the second byte of a
page whether or not the page holds it (R101). -/
def fetchLength (v : Variant) (b0 : Byte) : Nat :=
  match lookupFirst v b0 with
  | some e => e.length
  | none => 1

/-- The instruction an entry makes of the bytes after the first, and the bytes left over. A 16-bit immediate has its
low byte first (R106). -/
def Entry.complete (v : Variant) : Entry → List Byte → Except Reject (Instr × List Byte)
  | .op i, rest => .ok (i, rest)
  | .opN _, [] => .error .truncated
  | .opN mk, n :: rest => .ok (mk n, rest)
  | .opE _, [] => .error .truncated
  | .opE mk, e :: rest => .ok (mk e, rest)
  | .opNN _, [] => .error .truncated
  | .opNN _, [_] => .error .truncated
  | .opNN mk, lo :: hi :: rest => .ok (mk (word hi lo), rest)
  | .cbPage, [] => .error .truncated
  | .cbPage, b1 :: rest =>
    match (cbRows v).lookup b1.toNat with
    | some i => .ok (i, rest)
    | none => .error (.unrecognizedCb b1)
  | .edPage, [] => .error .truncated
  | .edPage, b1 :: rest =>
    match (edRows v).lookup b1.toNat with
    | some i => .ok (i, rest)
    | none => .error (.unrecognizedEd b1)

/-- Decode the first instruction of a byte stream (R101 to R103), answering it and the bytes after it. -/
def decode (v : Variant) : List Byte → Except Reject (Instr × List Byte)
  | [] => .error .noBytes
  | b0 :: rest =>
    match lookupFirst v b0 with
    | some e => e.complete v rest
    | none => .error (.unrecognized b0)

/-- The bytes of an instruction (R104, R106): opcode bytes, then the immediate, low byte first. -/
def encode : Instr → List Byte
  | .nop => [0x00]
  | .ldBcNn nn => [0x01, loByte nn, hiByte nn]
  | .ldDeNn nn => [0x11, loByte nn, hiByte nn]
  | .ldHlNn nn => [0x21, loByte nn, hiByte nn]
  | .ldSpNn nn => [0x31, loByte nn, hiByte nn]
  | .ldBcIndA => [0x02]
  | .ldDeIndA => [0x12]
  | .ldABcInd => [0x0A]
  | .ldADeInd => [0x1A]
  | .incBc => [0x03]
  | .decBc => [0x0B]
  | .addHlBc => [0x09]
  | .incDe => [0x13]
  | .decDe => [0x1B]
  | .addHlDe => [0x19]
  | .incHl => [0x23]
  | .decHl => [0x2B]
  | .addHlHl => [0x29]
  | .incSp => [0x33]
  | .decSp => [0x3B]
  | .addHlSp => [0x39]
  | .incB => [0x04]
  | .decB => [0x05]
  | .ldBN n => [0x06, n]
  | .incC => [0x0C]
  | .decC => [0x0D]
  | .ldCN n => [0x0E, n]
  | .incD => [0x14]
  | .decD => [0x15]
  | .ldDN n => [0x16, n]
  | .incE => [0x1C]
  | .decE => [0x1D]
  | .ldEN n => [0x1E, n]
  | .incH => [0x24]
  | .decH => [0x25]
  | .ldHN n => [0x26, n]
  | .incL => [0x2C]
  | .decL => [0x2D]
  | .ldLN n => [0x2E, n]
  | .incHlInd => [0x34]
  | .decHlInd => [0x35]
  | .ldHlIndN n => [0x36, n]
  | .incA => [0x3C]
  | .decA => [0x3D]
  | .ldAN n => [0x3E, n]
  | .jr e => [0x18, e]
  | .jrNz e => [0x20, e]
  | .jrZ e => [0x28, e]
  | .jrNc e => [0x30, e]
  | .jrC e => [0x38, e]
  | .ldBB => [0x40]
  | .ldBC => [0x41]
  | .ldBD => [0x42]
  | .ldBE => [0x43]
  | .ldBH => [0x44]
  | .ldBL => [0x45]
  | .ldBHlInd => [0x46]
  | .ldBA => [0x47]
  | .ldCB => [0x48]
  | .ldCC => [0x49]
  | .ldCD => [0x4A]
  | .ldCE => [0x4B]
  | .ldCH => [0x4C]
  | .ldCL => [0x4D]
  | .ldCHlInd => [0x4E]
  | .ldCA => [0x4F]
  | .ldDB => [0x50]
  | .ldDC => [0x51]
  | .ldDD => [0x52]
  | .ldDE => [0x53]
  | .ldDH => [0x54]
  | .ldDL => [0x55]
  | .ldDHlInd => [0x56]
  | .ldDA => [0x57]
  | .ldEB => [0x58]
  | .ldEC => [0x59]
  | .ldED => [0x5A]
  | .ldEE => [0x5B]
  | .ldEH => [0x5C]
  | .ldEL => [0x5D]
  | .ldEHlInd => [0x5E]
  | .ldEA => [0x5F]
  | .ldHB => [0x60]
  | .ldHC => [0x61]
  | .ldHD => [0x62]
  | .ldHE => [0x63]
  | .ldHH => [0x64]
  | .ldHL => [0x65]
  | .ldHHlInd => [0x66]
  | .ldHA => [0x67]
  | .ldLB => [0x68]
  | .ldLC => [0x69]
  | .ldLD => [0x6A]
  | .ldLE => [0x6B]
  | .ldLH => [0x6C]
  | .ldLL => [0x6D]
  | .ldLHlInd => [0x6E]
  | .ldLA => [0x6F]
  | .ldHlIndB => [0x70]
  | .ldHlIndC => [0x71]
  | .ldHlIndD => [0x72]
  | .ldHlIndE => [0x73]
  | .ldHlIndH => [0x74]
  | .ldHlIndL => [0x75]
  | .ldHlIndA => [0x77]
  | .ldAB => [0x78]
  | .ldAC => [0x79]
  | .ldAD => [0x7A]
  | .ldAE => [0x7B]
  | .ldAH => [0x7C]
  | .ldAL => [0x7D]
  | .ldAHlInd => [0x7E]
  | .ldAA => [0x7F]
  | .addAB => [0x80]
  | .addAC => [0x81]
  | .addAD => [0x82]
  | .addAE => [0x83]
  | .addAH => [0x84]
  | .addAL => [0x85]
  | .addAHlInd => [0x86]
  | .addAA => [0x87]
  | .addAN n => [0xC6, n]
  | .retNz => [0xC0]
  | .jpNz nn => [0xC2, loByte nn, hiByte nn]
  | .callNz nn => [0xC4, loByte nn, hiByte nn]
  | .retZ => [0xC8]
  | .jpZ nn => [0xCA, loByte nn, hiByte nn]
  | .callZ nn => [0xCC, loByte nn, hiByte nn]
  | .retNc => [0xD0]
  | .jpNc nn => [0xD2, loByte nn, hiByte nn]
  | .callNc nn => [0xD4, loByte nn, hiByte nn]
  | .retC => [0xD8]
  | .jpC nn => [0xDA, loByte nn, hiByte nn]
  | .callC nn => [0xDC, loByte nn, hiByte nn]
  | .retPo => [0xE0]
  | .jpPo nn => [0xE2, loByte nn, hiByte nn]
  | .callPo nn => [0xE4, loByte nn, hiByte nn]
  | .retPe => [0xE8]
  | .jpPe nn => [0xEA, loByte nn, hiByte nn]
  | .callPe nn => [0xEC, loByte nn, hiByte nn]
  | .retP => [0xF0]
  | .jpP nn => [0xF2, loByte nn, hiByte nn]
  | .callP nn => [0xF4, loByte nn, hiByte nn]
  | .retM => [0xF8]
  | .jpM nn => [0xFA, loByte nn, hiByte nn]
  | .callM nn => [0xFC, loByte nn, hiByte nn]
  | .jp nn => [0xC3, loByte nn, hiByte nn]
  | .ret => [0xC9]
  | .call nn => [0xCD, loByte nn, hiByte nn]
  | .jpHlInd => [0xE9]
  | .ldSpHl => [0xF9]
  | .di => [0xF3]
  | .ei => [0xFB]
  | .ldNnIndHl nn => [0x22, loByte nn, hiByte nn]
  | .ldHlNnInd nn => [0x2A, loByte nn, hiByte nn]
  | .ldNnIndAZ80 nn => [0x32, loByte nn, hiByte nn]
  | .ldANnIndZ80 nn => [0x3A, loByte nn, hiByte nn]
  | .ldi => [0xED, 0xA0]
  | .ldHlIncA => [0x22]
  | .ldAHlInc => [0x2A]
  | .ldHlDecA => [0x32]
  | .ldAHlDec => [0x3A]
  | .reti => [0xD9]
  | .ldhNIndA n => [0xE0, n]
  | .ldCIndA => [0xE2]
  | .addSpN e => [0xE8, e]
  | .ldNnIndALr nn => [0xEA, loByte nn, hiByte nn]
  | .ldhANInd n => [0xF0, n]
  | .ldACInd => [0xF2]
  | .ldHlSpN e => [0xF8, e]
  | .ldANnIndLr nn => [0xFA, loByte nn, hiByte nn]
  | .swapB => [0xCB, 0x30]
  | .swapC => [0xCB, 0x31]
  | .swapD => [0xCB, 0x32]
  | .swapE => [0xCB, 0x33]
  | .swapH => [0xCB, 0x34]
  | .swapL => [0xCB, 0x35]
  | .swapHlInd => [0xCB, 0x36]
  | .swapA => [0xCB, 0x37]

/-- The variant that is not `v`. -/
def Variant.other : Variant → Variant
  | .z80 => .lr35902
  | .lr35902 => .z80

/-- The three bytes of an instruction numbered as `spec/opcode_table.json` numbers it, zero above `nbits`. The first byte
is bits 7..0, but for the two-byte opcodes, whose rows the table writes as one number with the page byte (0xCB or 0xED)
in bits 15..8 (assumption 15). -/
def tableBytes (nbits w : Nat) : List Byte :=
  let w := w % 2 ^ nbits
  let b0 : Byte := BitVec.ofNat 8 w
  let b1 : Byte := BitVec.ofNat 8 (w / 0x100)
  let b2 : Byte := BitVec.ofNat 8 (w / 0x10000)
  if nbits = 16 ∧ (b1 = 0xCB#8 ∨ b1 = 0xED#8) then [b1, b0, 0#8] else [b0, b1, b2]

/-- The instruction variant `v` decodes from a table word, if its length is not below `nbits`. -/
def tableInstr (v : Variant) (nbits w : Nat) : Option Instr :=
  match decode v (tableBytes nbits w) with
  | .ok (i, _) => if nbits ≤ 8 * (encode i).length then some i else none
  | .error _ => none

/-- The preferred variant if it decodes the table word, else the other one if that does (assumption 15). -/
def tableVariant (prefer : Variant) (nbits w : Nat) : Variant :=
  if (tableInstr prefer nbits w).isSome then prefer
  else if (tableInstr prefer.other nbits w).isSome then prefer.other
  else prefer

/-- The instruction the decoder reads from a table word: the LR35902's, or the Z80's where only the Z80 has one
(assumption 15). -/
def decodeTableWord (nbits w : Nat) : Option Instr := tableInstr (tableVariant .lr35902 nbits w) nbits w

end Sys2Proof
end

