-- ==== Sys2Proof/Machine/State.lean ====
section
/-! DEFINITION. The whole state of the block (`10_state.md` R20), the reasons a step can stop, and the state right
after construction (R40, `60_exceptions.md` R275). -/

namespace Sys2Proof.Machine

/-- The 8-bit registers an opcode can name (`00_scope.md` R11); code 6 is the memory byte at HL, in rows of its own. -/
inductive Reg8 where
  | b | c | d | e | h | l | a
  deriving DecidableEq, Repr

/-- The 16-bit registers an opcode can name, `r16[p]` (`00_scope.md` R11). -/
inductive Reg16 where
  | bc | de | hl | sp
  deriving DecidableEq, Repr

/-- The pair views the host reads (`10_state.md` R22, R37). -/
inductive Pair where
  | af | bc | de | hl
  deriving DecidableEq, Repr

/-- Condition codes (`43_control.md` R220). -/
inductive Cond where
  | nz | z | nc | c | po | pe | p | m
  deriving DecidableEq, Repr

/-- The flags: Z, N, H, C on both variants, S and P/V on the Z80 (`10_state.md` R25, R26). -/
inductive Flag where
  | s | z | h | pv | n | c
  deriving DecidableEq, Repr

/-- The Z80 shadow set (`10_state.md` R30; its members are the spec's own reading, G18). -/
structure ShadowRegs where
  a : Byte
  f : Byte
  b : Byte
  c : Byte
  d : Byte
  e : Byte
  h : Byte
  l : Byte
  deriving DecidableEq, Repr

/-- The CPU's registers (`10_state.md` R21 to R32). The pairs and the flags are views and have no storage of their own.
On the LR35902 `shadow` is inert storage that no accessor shows (assumption 6). -/
structure Cpu where
  a : Byte
  f : Byte
  b : Byte
  c : Byte
  d : Byte
  e : Byte
  h : Byte
  l : Byte
  sp : Word
  pc : Word
  i : Byte
  r : Byte
  iff1 : Bool
  iff2 : Bool
  eiPending : Bool
  shadow : ShadowRegs
  deriving DecidableEq, Repr

/-- One pulse channel without its sweep unit (`60_exceptions.md` R272); `lengthCounter` ranges over 0..64. -/
structure Pulse where
  duty : BitVec 2
  lengthLoad : BitVec 6
  lengthCounter : BitVec 7
  startingVolume : BitVec 4
  envelopeAddMode : Bool
  envelopePeriod : BitVec 3
  envelopeCounter : BitVec 3
  frequency : BitVec 11
  lengthEnable : Bool
  volume : BitVec 4
  enabled : Bool
  deriving DecidableEq, Repr

/-- The sweep fields, which pulse 1 alone has (`60_exceptions.md` R272). -/
structure Sweep where
  period : BitVec 3
  negate : Bool
  shift : BitVec 3
  deriving DecidableEq, Repr

/-- Bytes by address: addresses strictly rising, no entry equal to what an unlisted address reads as. -/
abbrev Memory := List Host.Cell

/-- The APU (`60_exceptions.md` R270); `shadow` is keyed by bus address, 0xFF10..0xFF3F. -/
structure Apu where
  shadow : Memory
  seqIndex : BitVec 2
  pulse1 : Pulse
  pulse2 : Pulse
  sweep : Sweep
  deriving DecidableEq, Repr

/-- The storage behind the data bus (`10_state.md` R35, R36): `mem` holds the bytes of the RAM and ROM windows by bus
address, `devLog` what the platform-supplied peripherals have been asked so far, newest first (assumption 11). -/
structure Bus where
  mem : Memory
  apu : Apu
  devLog : List BusEvent
  deriving DecidableEq, Repr

/-- The errors that are fatal (`60_exceptions.md` R257): the decode error of a step and the overlap at bring-up. -/
inductive FatalReason where
  | decodeError (pc : Word) (bytes : List Byte)
  | busOverlap (old new : Registration)
  deriving DecidableEq, Repr

/-- The run status (`10_state.md` R33). -/
inductive Status where
  | running
  | fatal (reason : FatalReason)
  deriving DecidableEq, Repr

/-- What the host may do between two CPU steps (`00_scope.md` R7, R8; `70_reset_and_hazards.md` R325). -/
inductive HostAction where
  | setPc (w : Word)
  | setSp (w : Word)
  | setA (v : Byte)
  | read8 (addr : Word)
  | read16 (addr : Word)
  | write8 (addr : Word) (v : Byte)
  | write16 (addr : Word) (w : Word)
  | call (addr : Word)
  | clock256hz
  deriving DecidableEq, Repr

/-- One entry of a schedule: whose turn it is (`70_reset_and_hazards.md` R325). -/
inductive Turn where
  | cpu
  | host (act : HostAction)
  deriving DecidableEq, Repr

/-- The state of the block. `config` holds the parameters, which no step changes (`00_scope.md` R6). `schedule` is the
input of a run that says whose turn is next; when it is empty the CPU steps (assumption 12). `callReturn` is the `pc0`
of a host `call(addr)` under way (assumption 13). -/
structure State where
  config : Config
  cpu : Cpu
  bus : Bus
  status : Status
  schedule : List Turn
  callReturn : Option Word
  deriving DecidableEq, Repr

/-- Why a step stops. -/
inductive Fault where
  /-- Raised by a CPU step whose bytes are no admitted instruction (`60_exceptions.md` R251). `final` is the state the
  error leaves: its `status` holds the pc and the offending bytes. Safe: the machine stops there too. -/
  | decodeError (final : State)
  /-- Raised by a step asked of a state whose status is already Fatal (`60_exceptions.md` R250: no step is defined from
  that state). Safe. -/
  | stopped (reason : FatalReason)
  deriving DecidableEq, Repr

/-- Why an instruction has no meaning. -/
inductive Refusal where
  /-- Raised by an arm of `exec` that is not modelled yet; no arm is. Safe. -/
  | notModelled (mnemonic : String)
  deriving DecidableEq, Repr

/-- What a meaning answers. -/
abbrev Result := Host.Outcome State Fault Refusal

/-- The values construction leaves unspecified (`10_state.md` R40: "a model takes them as free launch values"). -/
structure Launch where
  b : Byte
  c : Byte
  d : Byte
  e : Byte
  h : Byte
  l : Byte
  i : Byte
  r : Byte
  shadow : ShadowRegs
  mem : Memory
  deriving DecidableEq, Repr

/-- A pulse channel after APU construction: every field 0 or false (`60_exceptions.md` R275, D25). -/
def Pulse.initial : Pulse :=
  { duty := 0, lengthLoad := 0, lengthCounter := 0, startingVolume := 0, envelopeAddMode := false,
    envelopePeriod := 0, envelopeCounter := 0, frequency := 0, lengthEnable := false, volume := 0, enabled := false }

/-- The APU after construction (`60_exceptions.md` R275, D25). -/
def Apu.initial : Apu :=
  { shadow := [], seqIndex := 0, pulse1 := Pulse.initial, pulse2 := Pulse.initial,
    sweep := { period := 0, negate := false, shift := 0 } }

/-- The machine right after construction with parameters `cfg` and the unspecified values `v` (`10_state.md` R40). F is
0xFF on the Z80 and 0xF0 on the LR35902 (conflict C1). -/
def State.launch (cfg : Config) (v : Launch) : State :=
  { config := cfg
    cpu := { a := 0xFF, f := match cfg.variant with
                             | .z80 => 0xFF
                             | .lr35902 => 0xF0
             b := v.b, c := v.c, d := v.d, e := v.e, h := v.h, l := v.l, sp := 0xFFFF, pc := 0x0000,
             i := v.i, r := v.r, iff1 := false, iff2 := false, eiPending := false, shadow := v.shadow }
    bus := { mem := v.mem, apu := Apu.initial, devLog := [] }
    status := .running
    schedule := []
    callReturn := none }

/-- The model's choice for the values the spec leaves unspecified (assumptions 4 to 7): zero, nothing listed. -/
def Launch.zero : Launch :=
  { b := 0, c := 0, d := 0, e := 0, h := 0, l := 0, i := 0, r := 0,
    shadow := { a := 0, f := 0, b := 0, c := 0, d := 0, e := 0, h := 0, l := 0 }, mem := [] }

/-- The model's choice of the parameters at reset (assumptions 1 to 3). -/
def defaultConfig : Config :=
  { variant := .lr35902
    peripherals :=
      [ { first := 0x0000, last := 0xFF0F, device := .ram },
        { first := 0xFF10, last := 0xFF3F, device := .apu },
        { first := 0xFF40, last := 0xFFFF, device := .ram } ]
    ldhOffset := .signed }

/-- The machine right after reset. -/
def State.reset : State := State.launch defaultConfig Launch.zero

end Sys2Proof.Machine
end

