-- ==== Sys2Proof/Machine/Memory.lean ====
section
/-! DEFINITION. Byte storage as a list of (address, byte) pairs in one canonical form. -/

namespace Sys2Proof.Machine

/-- What an unlisted address reads as: 0x00. For the APU's shadow RAM this is the reset content the spec gives
(`60_exceptions.md` R275); for RAM and ROM windows, whose initial content is unspecified (`20_memory.md` R69), it is the
model's choice (assumption 7). -/
def Memory.unlisted : Byte := 0x00

/-- The byte at address `a`. -/
def Memory.read : Memory → Nat → Byte
  | [], _ => Memory.unlisted
  | (k, v) :: m, a => if a = k then v else Memory.read m a

/-- Put `v` at `a` before the first larger key. -/
def Memory.insert : Memory → Nat → Byte → Memory
  | [], a, v => [(a, v)]
  | (k, w) :: m, a, v =>
    if a < k then (a, v) :: (k, w) :: m
    else if a = k then (a, v) :: m
    else (k, w) :: Memory.insert m a v

/-- Unlist `a`. -/
def Memory.erase : Memory → Nat → Memory
  | [], _ => []
  | (k, w) :: m, a => if a = k then Memory.erase m a else (k, w) :: Memory.erase m a

/-- Store `v` at `a`; storing what an unlisted address reads as unlists it. -/
def Memory.write (m : Memory) (a : Nat) (v : Byte) : Memory :=
  if v = Memory.unlisted then m.erase a else m.insert a v

/-- The canonical form: addresses strictly rising, no entry equal to what an unlisted address reads as. -/
abbrev Memory.wf (m : Memory) : Prop :=
  m.Pairwise (fun x y => x.1 < y.1) ∧ ∀ x ∈ m, x.2 ≠ Memory.unlisted

end Sys2Proof.Machine
end

