-- ==== Sys2Proof/Machine/Apu.lean ====
section
/-! DEFINITION. The APU: register writes, trigger, the frame sequencer and the outputs (`60_exceptions.md` R270 to R290). -/

namespace Sys2Proof.Machine

/-- `shadow[addr]`: what a bus read of the window answers (R288). -/
def Apu.read (u : Apu) (addr : Word) : Byte := u.shadow.read addr.toNat

/-- The trigger (R282): steps 1 to 4; step 5 is no state of this block. -/
def Pulse.trigger (p : Pulse) : Pulse :=
  { p with
    enabled := true
    lengthCounter := if p.lengthCounter = 0 then 64 else p.lengthCounter
    envelopeCounter := p.envelopePeriod
    volume := p.startingVolume }

/-- `DDLL LLLL` (R278). -/
def Pulse.writeDutyLength (p : Pulse) (val : Byte) : Pulse :=
  { p with
    duty := val.extractLsb' 6 2
    lengthLoad := val.extractLsb' 0 6
    lengthCounter := 64 - (val.extractLsb' 0 6).setWidth 7 }

/-- `VVVV APPP` (R279). -/
def Pulse.writeEnvelope (p : Pulse) (val : Byte) : Pulse :=
  { p with
    startingVolume := val.extractLsb' 4 4
    envelopeAddMode := val.getLsbD 3
    envelopePeriod := val.extractLsb' 0 3 }

/-- `{hi[2:0], lo}`, the 11-bit frequency of its two registers (R280, R281). -/
def composeFrequency (hi lo : Byte) : BitVec 11 :=
  BitVec.ofNat 11 (hi.toNat % 8 * 256 + lo.toNat)

/-- `FFFF FFFF` (R280): `hi` is the current shadow byte of the other register. -/
def Pulse.writeFrequencyLow (p : Pulse) (hi val : Byte) : Pulse := { p with frequency := composeFrequency hi val }

/-- `TL-- -FFF` (R281): frequency, then trigger, then `length_enable`. -/
def Pulse.writeControl (p : Pulse) (lo val : Byte) : Pulse :=
  let p := { p with frequency := composeFrequency val lo }
  let p := if val.getLsbD 7 then p.trigger else p
  { p with lengthEnable := val.getLsbD 6 }

/-- `-PPP NSSS` (R277). -/
def Sweep.ofByte (val : Byte) : Sweep :=
  { period := val.extractLsb' 4 3, negate := val.getLsbD 3, shift := val.extractLsb' 0 3 }

/-- The dispatch of a register write by address (R277 to R281); 0xFF15 and 0xFF1A..0xFF3F have no effect (R289). -/
def Apu.dispatch (u : Apu) (addr : Word) (val : Byte) : Apu :=
  if addr = 0xFF10#16 then { u with sweep := Sweep.ofByte val }
  else if addr = 0xFF11#16 then { u with pulse1 := u.pulse1.writeDutyLength val }
  else if addr = 0xFF12#16 then { u with pulse1 := u.pulse1.writeEnvelope val }
  else if addr = 0xFF13#16 then { u with pulse1 := u.pulse1.writeFrequencyLow (u.read 0xFF14#16) val }
  else if addr = 0xFF14#16 then { u with pulse1 := u.pulse1.writeControl (u.read 0xFF13#16) val }
  else if addr = 0xFF16#16 then { u with pulse2 := u.pulse2.writeDutyLength val }
  else if addr = 0xFF17#16 then { u with pulse2 := u.pulse2.writeEnvelope val }
  else if addr = 0xFF18#16 then { u with pulse2 := u.pulse2.writeFrequencyLow (u.read 0xFF19#16) val }
  else if addr = 0xFF19#16 then { u with pulse2 := u.pulse2.writeControl (u.read 0xFF18#16) val }
  else u

/-- `shadow[addr] <- val`. -/
def Apu.setShadow (u : Apu) (addr : Word) (val : Byte) : Apu := { u with shadow := u.shadow.write addr.toNat val }

/-- A bus write (R276): the shadow byte first, then the dispatch. -/
def Apu.write (u : Apu) (addr : Word) (val : Byte) : Apu := (u.setShadow addr val).dispatch addr val

/-- Length tick (R284). -/
def Pulse.lengthTick (p : Pulse) : Pulse :=
  if p.lengthEnable ∧ p.lengthCounter ≠ 0 then
    let p := { p with lengthCounter := p.lengthCounter - 1 }
    if p.lengthCounter = 0 then { p with enabled := false } else p
  else p

/-- `sweep_calc(f)` (R285), an exact number: 0..4094. -/
def Sweep.calc (w : Sweep) (f : Nat) : Nat :=
  if w.negate then f - (f >>> w.shift.toNat) else f + (f >>> w.shift.toNat)

/-- Sweep tick of pulse 1 (R285). -/
def Sweep.tick (w : Sweep) (p : Pulse) : Pulse :=
  if w.period ≠ 0 ∧ w.shift ≠ 0 then
    let n := w.calc p.frequency.toNat
    if n > 2047 then { p with enabled := false }
    else
      let p := { p with frequency := BitVec.ofNat 11 n }
      if w.calc n > 2047 then { p with enabled := false } else p
  else p

/-- The volume step of an expired envelope, clamped to 0..15 (R286). -/
def Pulse.stepVolume (p : Pulse) : Pulse :=
  if p.envelopeAddMode then
    if p.volume < 15 then { p with volume := p.volume + 1 } else p
  else
    if p.volume > 0 then { p with volume := p.volume - 1 } else p

/-- Envelope tick (R286). -/
def Pulse.envelopeTick (p : Pulse) : Pulse :=
  if p.envelopePeriod ≠ 0 then
    let p := if p.envelopeCounter ≠ 0 then { p with envelopeCounter := p.envelopeCounter - 1 } else p
    if p.envelopeCounter = 0 then { p with envelopeCounter := p.envelopePeriod }.stepVolume else p
  else p

/-- One tick of the frame sequencer (R283): the index is tested first and advanced last. -/
def Apu.clock256hz (u : Apu) : Apu :=
  let i := u.seqIndex
  let u := { u with pulse1 := u.pulse1.lengthTick, pulse2 := u.pulse2.lengthTick }
  let u := if i = 1 ∨ i = 3 then { u with pulse1 := u.sweep.tick u.pulse1 } else u
  let u := if i = 3 then { u with pulse1 := u.pulse1.envelopeTick, pulse2 := u.pulse2.envelopeTick } else u
  { u with seqIndex := i + 1 }

/-- `out_amplitude` (R273), raw 0..15. -/
def Pulse.outAmplitude (p : Pulse) : BitVec 4 := if p.enabled then p.volume else 0

/-- `out_frequency` (R273), the raw 11-bit value. -/
def Pulse.outFrequency (p : Pulse) : BitVec 11 := p.frequency

/-- `out_waveform` (R273), 0..3. -/
def Pulse.outWaveform (p : Pulse) : BitVec 2 := p.duty

/-- `q` held to the sink's range `f in [0,1]` (R273). -/
def unitRange (q : ℚ) : ℚ := max 0 (min 1 q)

/-- `q` where it is a frequency the sink takes, `hz > 0` (R273). -/
def positiveHz (q : ℚ) : ℚ := if 0 < q then q else 1

/-- What `set_amplitude` is given (R273): the raw output by `SINK_SCALE` (`00_scope.md` R6, assumption 22). -/
def Pulse.sinkAmplitude (p : Pulse) : ℚ := unitRange (Config.sinkLevel p.outAmplitude)

/-- What `set_frequency` is given (R273): the raw output by `SINK_SCALE` (`00_scope.md` R6, assumption 22). -/
def Pulse.sinkFrequency (p : Pulse) : ℚ := positiveHz (Config.sinkHertz p.outFrequency)

end Sys2Proof.Machine
end

