-- ==== Sys2Proof/Machine/Ops.lean ====
section
/-! DEFINITION. The operations over the bus, the stack and the control registers, and the one exception of the machine,
the fatal decode error (`20_memory.md` R60 to R80, `60_exceptions.md` R251). -/

namespace Sys2Proof.Machine

/-- The closed range holds the address (`20_memory.md` R64). -/
def owns (x : Registration) (a : Word) : Bool := decide (x.first ≤ a) && decide (a ≤ x.last)

/-- The device that owns an address, by a linear lookup (`20_memory.md` R62, R64). -/
def ownerOf (c : Config) (a : Word) : Option Device := (c.peripherals.find? fun x => owns x a).map (·.device)

/-- `APU_PRESENT` (`00_scope.md` R6). -/
def apuPresent (c : Config) : Bool := c.peripherals.any fun x => x.device == .apu

/-- The accesses a platform-supplied peripheral has seen, newest first. -/
def Bus.history (b : Bus) (id : Nat) : List BusEvent := b.devLog.filter fun ev => ev.device == id

/-- The byte `read8(a)` answers (`20_memory.md` R63, R64, R69; `60_exceptions.md` R288). -/
def Bus.peek8 (c : Config) (b : Bus) (a : Word) : Byte :=
  match ownerOf c a with
  | none => 0xFF
  | some .ram => b.mem.read a.toNat
  | some .rom => b.mem.read a.toNat
  | some .apu => b.apu.read a
  | some (.platform id) => Config.platformByte id (b.history id) a

/-- The bus after `read8(a)`: only a platform-supplied peripheral can notice a read (`20_memory.md` R64). -/
def Bus.afterRead (c : Config) (b : Bus) (a : Word) : Bus :=
  match ownerOf c a with
  | none => b
  | some .ram => b
  | some .rom => b
  | some .apu => b
  | some (.platform id) => { b with devLog := { device := id, addr := a, written := none } :: b.devLog }

/-- `write8(a, v)` (`20_memory.md` R63, R65, R69, R79; `60_exceptions.md` R276). -/
def Bus.write8 (c : Config) (b : Bus) (a : Word) (v : Byte) : Bus :=
  match ownerOf c a with
  | none => b
  | some .ram => { b with mem := b.mem.write a.toNat v }
  | some .rom => b
  | some .apu => { b with apu := b.apu.write a v }
  | some (.platform id) => { b with devLog := { device := id, addr := a, written := some v } :: b.devLog }

/-- The byte a bus read of `a` would answer now. -/
def State.peek8 (s : State) (a : Word) : Byte := s.bus.peek8 s.config a

/-- The state after a bus read of `a`. -/
def State.afterRead (s : State) (a : Word) : State := { s with bus := s.bus.afterRead s.config a }

/-- `MemRead(a, 1)` (R64): the byte, and the state with the read's side effect. -/
def State.read8 (s : State) (a : Word) : Byte × State := (s.peek8 a, s.afterRead a)

/-- `MemWrite(a, 1, v)` (R65). -/
def State.write8 (s : State) (a : Word) (v : Byte) : State := { s with bus := s.bus.write8 s.config a v }

/-- `MemRead(a, 2)` (R66): low byte first, the second address modulo 2^16. -/
def State.read16 (s : State) (a : Word) : Word × State :=
  let (lo, s) := s.read8 a
  let (hi, s) := s.read8 (a + 1)
  (word hi lo, s)

/-- `MemWrite(a, 2, w)` (R67): low byte first, the second address modulo 2^16. -/
def State.write16 (s : State) (a : Word) (w : Word) : State := (s.write8 a (loByte w)).write8 (a + 1) (hiByte w)

/-- `pc <- w`. -/
def State.setPc (s : State) (w : Word) : State := { s with cpu := { s.cpu with pc := w } }

/-- `SP <- w`. -/
def State.setSp (s : State) (w : Word) : State := { s with cpu := { s.cpu with sp := w } }

/-- IFF1 and IFF2, which are always written together (`10_state.md` R31). -/
def State.setIff (s : State) (b : Bool) : State := { s with cpu := { s.cpu with iff1 := b, iff2 := b } }

/-- `ei_pending <- b` (`10_state.md` R32). -/
def State.setEiPending (s : State) (b : Bool) : State := { s with cpu := { s.cpu with eiPending := b } }

/-- `push16(w)` (`43_control.md` R230, `20_memory.md` R80). -/
def State.push16 (s : State) (w : Word) : State :=
  let s := s.setSp (s.cpu.sp - 2)
  s.write16 s.cpu.sp w

/-- `pop16()` (`43_control.md` R230, `20_memory.md` R80). -/
def State.pop16 (s : State) : Word × State :=
  let (w, s) := s.read16 s.cpu.sp
  (w, s.setSp (s.cpu.sp + 2))

/-- The deferred effect of `EI`, due when the step began with `ei_pending` true (`30_encoding.md` R101). -/
def State.finishEi (s : State) (wasEi : Bool) : State :=
  if wasEi then (s.setIff true).setEiPending false else s

/-- Taking the decode error (`60_exceptions.md` R251): the pending `EI` is completed, PC stays at the first byte of the
offending instruction, and the status becomes Fatal with that PC and the bytes read. There is no return from it (R263). -/
def State.takeDecodeError (s : State) (wasEi : Bool) (bytes : List Byte) : State :=
  { s.finishEi wasEi with status := .fatal (.decodeError s.cpu.pc bytes) }

end Sys2Proof.Machine
end

