-- ==== Sys2Proof/Machine/Operands.lean ====
section
/-! DEFINITION. The operand forms: register bytes, register words and pair views, F and its flags, conditions, and the
pseudo-pointer (`00_scope.md` R11, `10_state.md` R21 to R27, `40_load8.md` R152, R153, `43_control.md` R220). -/

namespace Sys2Proof.Machine

/-- The value of an 8-bit register (`10_state.md` R21). -/
def State.reg8 (s : State) : Reg8 → Byte
  | .b => s.cpu.b
  | .c => s.cpu.c
  | .d => s.cpu.d
  | .e => s.cpu.e
  | .h => s.cpu.h
  | .l => s.cpu.l
  | .a => s.cpu.a

/-- `r8 <- v`. -/
def State.setReg8 (s : State) (r : Reg8) (v : Byte) : State :=
  match r with
  | .b => { s with cpu := { s.cpu with b := v } }
  | .c => { s with cpu := { s.cpu with c := v } }
  | .d => { s with cpu := { s.cpu with d := v } }
  | .e => { s with cpu := { s.cpu with e := v } }
  | .h => { s with cpu := { s.cpu with h := v } }
  | .l => { s with cpu := { s.cpu with l := v } }
  | .a => { s with cpu := { s.cpu with a := v } }

/-- `r16[p]`: a pair view or SP (`10_state.md` R22, R23). -/
def State.pair16 (s : State) : Reg16 → Word
  | .bc => word s.cpu.b s.cpu.c
  | .de => word s.cpu.d s.cpu.e
  | .hl => word s.cpu.h s.cpu.l
  | .sp => s.cpu.sp

/-- `r16[p] <- w`: "writing splits" (`10_state.md` R22). -/
def State.setPair16 (s : State) (p : Reg16) (w : Word) : State :=
  match p with
  | .bc => { s with cpu := { s.cpu with b := hiByte w, c := loByte w } }
  | .de => { s with cpu := { s.cpu with d := hiByte w, e := loByte w } }
  | .hl => { s with cpu := { s.cpu with h := hiByte w, l := loByte w } }
  | .sp => s.setSp w

/-- The byte registers a pair is made of (`10_state.md` R22); SP has none. -/
def Reg16.parts : Reg16 → List Reg8
  | .bc => [.b, .c]
  | .de => [.d, .e]
  | .hl => [.h, .l]
  | .sp => []

/-- What F shows of a stored byte: bits 3..0 are hard-wired zero on the LR35902 (`10_state.md` R26). -/
def maskF (v : Variant) (f : Byte) : Byte :=
  match v with
  | .z80 => f
  | .lr35902 => f &&& 0xF0

/-- Every read of F (`10_state.md` R25, R26). -/
def State.regF (s : State) : Byte := maskF s.config.variant s.cpu.f

/-- Every write of F (`10_state.md` R26: "any write that would set them must mask them off"). -/
def State.setF (s : State) (f : Byte) : State := { s with cpu := { s.cpu with f := maskF s.config.variant f } }

/-- The bit of F a flag is wired to; S and P/V do not exist on the LR35902 (`10_state.md` R25 to R27). -/
def flagBit : Variant → Flag → Option Nat
  | .z80, .s => some 7
  | .z80, .z => some 6
  | .z80, .h => some 4
  | .z80, .pv => some 2
  | .z80, .n => some 1
  | .z80, .c => some 0
  | .lr35902, .s => none
  | .lr35902, .z => some 7
  | .lr35902, .h => some 5
  | .lr35902, .pv => none
  | .lr35902, .n => some 6
  | .lr35902, .c => some 4

/-- `flag.read()` (`10_state.md` R27); a flag the variant lacks reads false (assumption 14). -/
def State.flag (s : State) (fl : Flag) : Bool :=
  match flagBit s.config.variant fl with
  | some k => getBit s.regF k
  | none => false

/-- `flag <- b`: that bit of F and no other (`10_state.md` R27); a flag the variant lacks takes no write. -/
def State.setFlag (s : State) (fl : Flag) (b : Bool) : State :=
  match flagBit s.config.variant fl with
  | some k => s.setF (setBit s.regF k b)
  | none => s

/-- `cond(cc)` (`43_control.md` R220). -/
def State.cond (s : State) : Cond → Bool
  | .nz => !s.flag .z
  | .z => s.flag .z
  | .nc => !s.flag .c
  | .c => s.flag .c
  | .po => !s.flag .pv
  | .pe => s.flag .pv
  | .p => !s.flag .s
  | .m => s.flag .s

/-- `hiaddr(off, signed)` (`40_load8.md` R153). -/
def highAddr (off : Byte) (signed : Bool) : Word := 0xFF00#16 + (if signed then sext16 off else zext16 off)

/-- The address of `LDH (n),A` and `LDH A,(n)` (`40_load8.md` R149, R150). -/
def State.ldhAddr (s : State) (n : Byte) : Word := highAddr n (s.config.ldhOffset == .signed)

end Sys2Proof.Machine
end

