-- ==== Sys2Proof/Machine/Flags.lean ====
section
/-! DEFINITION. The flag computations (`10_state.md` R28; `42_arith.md` R204, R205, R199, R201; `41_load16_block.md` R175).
S and P/V are written on the Z80 alone, since `setFlag` writes no flag that the variant lacks. -/

namespace Sys2Proof.Machine

/-- The flags of `inc8(v)` (R205); C is kept. -/
def inc8Flags (v : Byte) (s : State) : State :=
  let r := v + 1
  let s := s.setFlag .z (r == 0)
  let s := s.setFlag .n false
  let s := s.setFlag .h (r.extractLsb' 0 4 == 0x0#4)
  let s := s.setFlag .s (r.getLsbD 7)
  s.setFlag .pv (v == 0x7F)

/-- The flags of `dec8(v)` (R205); C is kept. -/
def dec8Flags (v : Byte) (s : State) : State :=
  let r := v - 1
  let s := s.setFlag .z (r == 0)
  let s := s.setFlag .n true
  let s := s.setFlag .h (r.extractLsb' 0 4 == 0xF#4)
  let s := s.setFlag .s (r.getLsbD 7)
  s.setFlag .pv (v == 0x80)

/-- The flags of `add8(a, b)` (R204). -/
def add8Flags (a b : Byte) (s : State) : State :=
  let r := a + b
  let s := s.setFlag .z (r == 0)
  let s := s.setFlag .n false
  let s := s.setFlag .h (decide (a.toNat % 16 + b.toNat % 16 > 0x0F))
  let s := s.setFlag .c (decide (a.toNat + b.toNat > 0xFF))
  let s := s.setFlag .s (r.getLsbD 7)
  s.setFlag .pv (a.getLsbD 7 == b.getLsbD 7 && r.getLsbD 7 != a.getLsbD 7)

/-- The flags of `ADD HL,rr` (R199). -/
def addHlFlags (a b : Word) (s : State) : State :=
  let s := s.setFlag .n false
  let s := s.setFlag .h (decide (a.toNat % 0x1000 + b.toNat % 0x1000 > 0x0FFF))
  s.setFlag .c (decide (a.toNat + b.toNat > 0xFFFF))

/-- The result of `spadd(sp, e)` (R175). -/
def spAdd (sp : Word) (e : Byte) : Word := sp + sext16 e

/-- The flags of `spadd(sp, e)`: Z and N cleared, H and C the carries of the unsigned low-byte addition (R175). -/
def spAddFlags (sp : Word) (e : Byte) (s : State) : State :=
  let s := s.setFlag .z false
  let s := s.setFlag .n false
  let s := s.setFlag .h (decide (sp.toNat % 16 + e.toNat % 16 > 0x0F))
  s.setFlag .c (decide (sp.toNat % 0x100 + e.toNat > 0xFF))

/-- `{v[3:0], v[7:4]}`, that is `((v << 4) | (v >> 4)) mod 2^8` (R201). -/
def swapNibbles (v : Byte) : Byte := (v <<< 4) ||| (v >>> 4)

/-- The flags of `SWAP` with result `r` (R201). -/
def swapFlags (r : Byte) (s : State) : State :=
  let s := s.setFlag .z (r == 0)
  let s := s.setFlag .n false
  let s := s.setFlag .h false
  s.setFlag .c false

end Sys2Proof.Machine
end

