-- ==== Sys2Proof/Machine/Agents.lean ====
section
/-! DEFINITION. What the host does between two CPU steps, what it reads, and how it brings the block up
(`00_scope.md` R7, R8; `10_state.md` R37; `20_memory.md` R61; `60_exceptions.md` R267, R283; `70_reset_and_hazards.md`
R320, R325). -/

namespace Sys2Proof.Machine

/-- `register(peripheral, first, last)`: "fails if any existing range overlaps", and then registers nothing
(`20_memory.md` R61, U11). -/
def register (ps : List Registration) (x : Registration) : Except FatalReason (List Registration) :=
  match ps.find? fun y => y.overlaps x with
  | some y => .error (.busOverlap y x)
  | none => .ok (ps ++ [x])

/-- Registering a list of peripherals in order on a bus that holds `ps`. -/
def registerAll (ps : List Registration) : List Registration → Except FatalReason (List Registration)
  | [] => .ok ps
  | x :: rest =>
    match register ps x with
    | .error r => .error r
    | .ok ps' => registerAll ps' rest

/-- Bring-up and construction (`70_reset_and_hazards.md` R320): an empty bus, the registrations, then the CPU. -/
def bringUp (variant : Variant) (ldh : LdhOffset) (ps : List Registration) (v : Launch) : Except FatalReason State :=
  match registerAll [] ps with
  | .error r => .error r
  | .ok ps' => .ok (State.launch { variant := variant, peripherals := ps', ldhOffset := ldh } v)

/-- `clock_256hz()`: one tick of the APU if it is registered (`60_exceptions.md` R283; assumption 18). -/
def State.clock256hz (s : State) : State :=
  if apuPresent s.config then { s with bus := { s.bus with apu := s.bus.apu.clock256hz } } else s

/-- The start of `call(addr)` (`60_exceptions.md` R267): the PC is pushed as it stands and kept as the value at which
the call ends. -/
def State.startCall (s : State) (addr : Word) : State :=
  { (s.push16 s.cpu.pc).setPc addr with callReturn := some s.cpu.pc }

/-- One host action (`70_reset_and_hazards.md` R325). -/
def State.perform (s : State) : HostAction → State
  | .setPc w => s.setPc w
  | .setSp w => s.setSp w
  | .setA v => s.setReg8 .a v
  | .read8 a => (s.read8 a).2
  | .read16 a => (s.read16 a).2
  | .write8 a v => s.write8 a v
  | .write16 a w => s.write16 a w
  | .call a => s.startCall a
  | .clock256hz => s.clock256hz

/-- The host's read of a pair view (`10_state.md` R22, R37); the low byte of AF is F as it reads (R26). -/
def State.pair (s : State) : Pair → Word
  | .af => word (s.reg8 .a) s.regF
  | .bc => s.pair16 .bc
  | .de => s.pair16 .de
  | .hl => s.pair16 .hl

/-- The host's read of the shadow set, which the LR35902 does not own (`10_state.md` R30). -/
def State.shadowRegs (s : State) : Option ShadowRegs :=
  match s.config.variant with
  | .z80 => some s.cpu.shadow
  | .lr35902 => none

/-- "Interrupts are enabled" (`10_state.md` R31). -/
def State.interruptsEnabled (s : State) : Bool := s.cpu.iff1 && s.cpu.iff2

end Sys2Proof.Machine
end

