-- ==== Sys2Proof/Machine/Arith.lean ====
section
/-! DEFINITION. Increment, decrement, add and swap (`42_arith.md` R190 to R205). -/

namespace Sys2Proof.Machine

/-- `r <- inc8(r)` (R190). -/
def incReg (r : Reg8) (s : State) : State :=
  let v := s.reg8 r
  (inc8Flags v s).setReg8 r (v + 1)

/-- `r <- dec8(r)` (R192). -/
def decReg (r : Reg8) (s : State) : State :=
  let v := s.reg8 r
  (dec8Flags v s).setReg8 r (v - 1)

/-- `v <- MemRead(HL, 1); MemWrite(HL, 1, inc8(v))` (R191). -/
def incMem (s : State) : State :=
  let (v, s) := s.read8 (s.pair16 .hl)
  let s := inc8Flags v s
  s.write8 (s.pair16 .hl) (v + 1)

/-- `v <- MemRead(HL, 1); MemWrite(HL, 1, dec8(v))` (R193). -/
def decMem (s : State) : State :=
  let (v, s) := s.read8 (s.pair16 .hl)
  let s := dec8Flags v s
  s.write8 (s.pair16 .hl) (v - 1)

/-- `rr <- (rr + 1) mod 2^16`, no flag (R194). -/
def incPair (p : Reg16) (s : State) : State := s.setPair16 p (s.pair16 p + 1)

/-- `rr <- (rr - 1) mod 2^16`, no flag (R195). -/
def decPair (p : Reg16) (s : State) : State := s.setPair16 p (s.pair16 p - 1)

/-- `A <- add8(A, b)` (R196 to R198). -/
def addA (b : Byte) (s : State) : State :=
  let a := s.reg8 .a
  (add8Flags a b s).setReg8 .a (a + b)

/-- `A <- add8(A, MemRead(HL, 1))` (R197). -/
def addAMem (s : State) : State :=
  let (v, s) := s.read8 (s.pair16 .hl)
  addA v s

/-- `ADD HL,rr` (R199): N = 0, H from bit 11, C from bit 15, every other flag kept. -/
def addHlPair (p : Reg16) (s : State) : State :=
  let a := s.pair16 .hl
  let b := s.pair16 p
  addHlFlags a b (s.setPair16 .hl (a + b))

/-- `ADD SP,n` (R200). -/
def addSpImm (e : Byte) (s : State) : State :=
  let sp := s.pair16 .sp
  spAddFlags sp e (s.setPair16 .sp (spAdd sp e))

/-- `SWAP r` (R201). -/
def swapReg (r : Reg8) (s : State) : State :=
  let v := swapNibbles (s.reg8 r)
  swapFlags v (s.setReg8 r v)

/-- `SWAP (HL)` (R202). -/
def swapMem (s : State) : State :=
  let (v, s) := s.read8 (s.pair16 .hl)
  swapFlags (swapNibbles v) (s.write8 (s.pair16 .hl) (swapNibbles v))

/-- R194 `INC BC`. -/
def execIncBc (s : State) : Result := .next (incPair .bc s)

/-- R195 `DEC BC`. -/
def execDecBc (s : State) : Result := .next (decPair .bc s)

/-- R199 `ADD HL,BC`. -/
def execAddHlBc (s : State) : Result := .next (addHlPair .bc s)

/-- R194 `INC DE`. -/
def execIncDe (s : State) : Result := .next (incPair .de s)

/-- R195 `DEC DE`. -/
def execDecDe (s : State) : Result := .next (decPair .de s)

/-- R199 `ADD HL,DE`. -/
def execAddHlDe (s : State) : Result := .next (addHlPair .de s)

/-- R194 `INC HL`. -/
def execIncHl (s : State) : Result := .next (incPair .hl s)

/-- R195 `DEC HL`. -/
def execDecHl (s : State) : Result := .next (decPair .hl s)

/-- R199 `ADD HL,HL`. -/
def execAddHlHl (s : State) : Result := .next (addHlPair .hl s)

/-- R194 `INC SP`. -/
def execIncSp (s : State) : Result := .next (incPair .sp s)

/-- R195 `DEC SP`. -/
def execDecSp (s : State) : Result := .next (decPair .sp s)

/-- R199 `ADD HL,SP`. -/
def execAddHlSp (s : State) : Result := .next (addHlPair .sp s)

/-- R190 `INC B`. -/
def execIncB (s : State) : Result := .next (incReg .b s)

/-- R192 `DEC B`. -/
def execDecB (s : State) : Result := .next (decReg .b s)

/-- R190 `INC C`. -/
def execIncC (s : State) : Result := .next (incReg .c s)

/-- R192 `DEC C`. -/
def execDecC (s : State) : Result := .next (decReg .c s)

/-- R190 `INC D`. -/
def execIncD (s : State) : Result := .next (incReg .d s)

/-- R192 `DEC D`. -/
def execDecD (s : State) : Result := .next (decReg .d s)

/-- R190 `INC E`. -/
def execIncE (s : State) : Result := .next (incReg .e s)

/-- R192 `DEC E`. -/
def execDecE (s : State) : Result := .next (decReg .e s)

/-- R190 `INC H`. -/
def execIncH (s : State) : Result := .next (incReg .h s)

/-- R192 `DEC H`. -/
def execDecH (s : State) : Result := .next (decReg .h s)

/-- R190 `INC L`. -/
def execIncL (s : State) : Result := .next (incReg .l s)

/-- R192 `DEC L`. -/
def execDecL (s : State) : Result := .next (decReg .l s)

/-- R191 `INC (HL)`. -/
def execIncHlInd (s : State) : Result := .next (incMem s)

/-- R193 `DEC (HL)`. -/
def execDecHlInd (s : State) : Result := .next (decMem s)

/-- R190 `INC A`. -/
def execIncA (s : State) : Result := .next (incReg .a s)

/-- R192 `DEC A`. -/
def execDecA (s : State) : Result := .next (decReg .a s)

/-- R196 `ADD A,B`. -/
def execAddAB (s : State) : Result := .next (addA (s.reg8 .b) s)

/-- R196 `ADD A,C`. -/
def execAddAC (s : State) : Result := .next (addA (s.reg8 .c) s)

/-- R196 `ADD A,D`. -/
def execAddAD (s : State) : Result := .next (addA (s.reg8 .d) s)

/-- R196 `ADD A,E`. -/
def execAddAE (s : State) : Result := .next (addA (s.reg8 .e) s)

/-- R196 `ADD A,H`. -/
def execAddAH (s : State) : Result := .next (addA (s.reg8 .h) s)

/-- R196 `ADD A,L`. -/
def execAddAL (s : State) : Result := .next (addA (s.reg8 .l) s)

/-- R197 `ADD A,(HL)`. -/
def execAddAHlInd (s : State) : Result := .next (addAMem s)

/-- R196 `ADD A,A`. -/
def execAddAA (s : State) : Result := .next (addA (s.reg8 .a) s)

/-- R198 `ADD A,n`. -/
def execAddAN (n : Byte) (s : State) : Result := .next (addA n s)

/-- R200 `ADD SP,n`. -/
def execAddSpN (e : Byte) (s : State) : Result := .next (addSpImm e s)

/-- R201 `SWAP B`. -/
def execSwapB (s : State) : Result := .next (swapReg .b s)

/-- R201 `SWAP C`. -/
def execSwapC (s : State) : Result := .next (swapReg .c s)

/-- R201 `SWAP D`. -/
def execSwapD (s : State) : Result := .next (swapReg .d s)

/-- R201 `SWAP E`. -/
def execSwapE (s : State) : Result := .next (swapReg .e s)

/-- R201 `SWAP H`. -/
def execSwapH (s : State) : Result := .next (swapReg .h s)

/-- R201 `SWAP L`. -/
def execSwapL (s : State) : Result := .next (swapReg .l s)

/-- R202 `SWAP (HL)`. -/
def execSwapHlInd (s : State) : Result := .next (swapMem s)

/-- R201 `SWAP A`. -/
def execSwapA (s : State) : Result := .next (swapReg .a s)

end Sys2Proof.Machine
end

