-- ==== Sys2Proof/Machine/Control.lean ====
section
/-! DEFINITION. Control transfer and system instructions (`43_control.md` R220 to R240). The state a meaning is given has
PC = PCnext. No instruction here writes a flag (R239). -/

namespace Sys2Proof.Machine

/-- `pc <- target`. -/
def jumpTo (target : Word) (s : State) : State := s.setPc target

/-- `pc <- (PC + sext_16(e)) mod 2^16`, PC being PCnext (R224). -/
def jumpRelative (e : Byte) (s : State) : State := s.setPc (s.cpu.pc + sext16 e)

/-- `push16(PC); pc <- target` (R226). -/
def callTo (target : Word) (s : State) : State := (s.push16 s.cpu.pc).setPc target

/-- `pc <- pop16()` (R228). -/
def returnFrom (s : State) : State :=
  let (w, s) := s.pop16
  s.setPc w

/-- A transfer that is not taken does nothing (R239). -/
def whenCond (cc : Cond) (act : State → State) (s : State) : State := if s.cond cc then act s else s

/-- `IFF1 <- 1; IFF2 <- 1` (R236, and the deferred effect of `EI`, `30_encoding.md` R101). -/
def enableInterrupts (s : State) : State := s.setIff true

/-- `IFF1 <- 0; IFF2 <- 0`; `ei_pending` is not touched (R237). -/
def disableInterrupts (s : State) : State := s.setIff false

/-- `ei_pending <- true` (R238). -/
def requestInterruptEnable (s : State) : State := s.setEiPending true

/-- R235 `NOP`. -/
def execNop (s : State) : Result := .next s

/-- R224 `JR e`. -/
def execJr (e : Byte) (s : State) : Result := .next (jumpRelative e s)

/-- R225 `JR NZ,e`. -/
def execJrNz (e : Byte) (s : State) : Result := .next (whenCond .nz (jumpRelative e) s)

/-- R225 `JR Z,e`. -/
def execJrZ (e : Byte) (s : State) : Result := .next (whenCond .z (jumpRelative e) s)

/-- R225 `JR NC,e`. -/
def execJrNc (e : Byte) (s : State) : Result := .next (whenCond .nc (jumpRelative e) s)

/-- R225 `JR C,e`. -/
def execJrC (e : Byte) (s : State) : Result := .next (whenCond .c (jumpRelative e) s)

/-- R229 `RET NZ`. -/
def execRetNz (s : State) : Result := .next (whenCond .nz returnFrom s)

/-- R222 `JP NZ,nn`. -/
def execJpNz (nn : Word) (s : State) : Result := .next (whenCond .nz (jumpTo nn) s)

/-- R227 `CALL NZ,nn`. -/
def execCallNz (nn : Word) (s : State) : Result := .next (whenCond .nz (callTo nn) s)

/-- R229 `RET Z`. -/
def execRetZ (s : State) : Result := .next (whenCond .z returnFrom s)

/-- R222 `JP Z,nn`. -/
def execJpZ (nn : Word) (s : State) : Result := .next (whenCond .z (jumpTo nn) s)

/-- R227 `CALL Z,nn`. -/
def execCallZ (nn : Word) (s : State) : Result := .next (whenCond .z (callTo nn) s)

/-- R229 `RET NC`. -/
def execRetNc (s : State) : Result := .next (whenCond .nc returnFrom s)

/-- R222 `JP NC,nn`. -/
def execJpNc (nn : Word) (s : State) : Result := .next (whenCond .nc (jumpTo nn) s)

/-- R227 `CALL NC,nn`. -/
def execCallNc (nn : Word) (s : State) : Result := .next (whenCond .nc (callTo nn) s)

/-- R229 `RET C`. -/
def execRetC (s : State) : Result := .next (whenCond .c returnFrom s)

/-- R222 `JP C,nn`. -/
def execJpC (nn : Word) (s : State) : Result := .next (whenCond .c (jumpTo nn) s)

/-- R227 `CALL C,nn`. -/
def execCallC (nn : Word) (s : State) : Result := .next (whenCond .c (callTo nn) s)

/-- R229 `RET PO`. -/
def execRetPo (s : State) : Result := .next (whenCond .po returnFrom s)

/-- R222 `JP PO,nn`. -/
def execJpPo (nn : Word) (s : State) : Result := .next (whenCond .po (jumpTo nn) s)

/-- R227 `CALL PO,nn`. -/
def execCallPo (nn : Word) (s : State) : Result := .next (whenCond .po (callTo nn) s)

/-- R229 `RET PE`. -/
def execRetPe (s : State) : Result := .next (whenCond .pe returnFrom s)

/-- R222 `JP PE,nn`. -/
def execJpPe (nn : Word) (s : State) : Result := .next (whenCond .pe (jumpTo nn) s)

/-- R227 `CALL PE,nn`. -/
def execCallPe (nn : Word) (s : State) : Result := .next (whenCond .pe (callTo nn) s)

/-- R229 `RET P`. -/
def execRetP (s : State) : Result := .next (whenCond .p returnFrom s)

/-- R222 `JP P,nn`. -/
def execJpP (nn : Word) (s : State) : Result := .next (whenCond .p (jumpTo nn) s)

/-- R227 `CALL P,nn`. -/
def execCallP (nn : Word) (s : State) : Result := .next (whenCond .p (callTo nn) s)

/-- R229 `RET M`. -/
def execRetM (s : State) : Result := .next (whenCond .m returnFrom s)

/-- R222 `JP M,nn`. -/
def execJpM (nn : Word) (s : State) : Result := .next (whenCond .m (jumpTo nn) s)

/-- R227 `CALL M,nn`. -/
def execCallM (nn : Word) (s : State) : Result := .next (whenCond .m (callTo nn) s)

/-- R221 `JP nn`. -/
def execJp (nn : Word) (s : State) : Result := .next (jumpTo nn s)

/-- R228 `RET`. -/
def execRet (s : State) : Result := .next (returnFrom s)

/-- R226 `CALL nn`. -/
def execCall (nn : Word) (s : State) : Result := .next (callTo nn s)

/-- R223 `JP (HL)`. -/
def execJpHlInd (s : State) : Result := .next (jumpTo (s.pair16 .hl) s)

/-- R237 `DI`. -/
def execDi (s : State) : Result := .next (disableInterrupts s)

/-- R238 `EI`. -/
def execEi (s : State) : Result := .next (requestInterruptEnable s)

/-- R236 `RETI`. -/
def execReti (s : State) : Result := .next (enableInterrupts (returnFrom s))

end Sys2Proof.Machine
end

