-- ==== Sys2Proof/Machine/Load16.lean ====
section
/-! DEFINITION. The 16-bit loads, `LD HL,SP+n` and the block move (`41_load16_block.md` R170 to R177). -/

namespace Sys2Proof.Machine

/-- `rr <- MemRead(addr, 2)` (R173). -/
def loadPairMem (p : Reg16) (addr : Word) (s : State) : State :=
  let (w, s) := s.read16 addr
  s.setPair16 p w

/-- `LD HL,SP+n` (R176): HL takes the sum, SP keeps its value. -/
def loadHlSpImm (e : Byte) (s : State) : State :=
  let sp := s.pair16 .sp
  spAddFlags sp e (s.setPair16 .hl (spAdd sp e))

/-- One block-move step (R177); P/V is tested after the decrement of BC. -/
def blockMoveStep (s : State) : State :=
  let (v, s) := s.read8 (s.pair16 .hl)
  let s := s.write8 (s.pair16 .de) v
  let s := s.setPair16 .hl (s.pair16 .hl + 1)
  let s := s.setPair16 .de (s.pair16 .de + 1)
  let s := s.setPair16 .bc (s.pair16 .bc - 1)
  ((s.setFlag .h false).setFlag .pv (s.pair16 .bc != 0)).setFlag .n false

/-- R170 `LD BC,nn`. -/
def execLdBcNn (nn : Word) (s : State) : Result := .next (s.setPair16 .bc nn)

/-- R170 `LD DE,nn`. -/
def execLdDeNn (nn : Word) (s : State) : Result := .next (s.setPair16 .de nn)

/-- R170 `LD HL,nn`. -/
def execLdHlNn (nn : Word) (s : State) : Result := .next (s.setPair16 .hl nn)

/-- R170 `LD SP,nn`. -/
def execLdSpNn (nn : Word) (s : State) : Result := .next (s.setPair16 .sp nn)

/-- R171 `LD SP,HL`. -/
def execLdSpHl (s : State) : Result := .next (s.setPair16 .sp (s.pair16 .hl))

/-- R172 `LD (nn),HL`. -/
def execLdNnIndHl (nn : Word) (s : State) : Result := .next (s.write16 nn (s.pair16 .hl))

/-- R173 `LD HL,(nn)`. -/
def execLdHlNnInd (nn : Word) (s : State) : Result := .next (loadPairMem .hl nn s)

/-- R177 `LDI`. -/
def execLdi (s : State) : Result := .next (blockMoveStep s)

/-- R176 `LD HL,SP+n`. -/
def execLdHlSpN (e : Byte) (s : State) : Result := .next (loadHlSpImm e s)

end Sys2Proof.Machine
end

