-- ==== Sys2Proof/Machine/Load8.lean ====
section
/-! DEFINITION. The 8-bit loads (`40_load8.md` R130 to R153). No load writes a flag (R151). -/

namespace Sys2Proof.Machine

/-- `r <- MemRead(addr, 1)`. -/
def loadReg (r : Reg8) (addr : Word) (s : State) : State :=
  let (v, s) := s.read8 addr
  s.setReg8 r v

/-- `MemWrite(addr, 1, r)`. -/
def storeReg (addr : Word) (r : Reg8) (s : State) : State := s.write8 addr (s.reg8 r)

/-- `HL <- (HL + k) mod 2^16` (R143 to R146). -/
def adjustHl (k : Word) (s : State) : State := s.setPair16 .hl (s.pair16 .hl + k)

/-- R137 `LD (BC),A`. -/
def execLdBcIndA (s : State) : Result := .next (storeReg (s.pair16 .bc) .a s)

/-- R138 `LD (DE),A`. -/
def execLdDeIndA (s : State) : Result := .next (storeReg (s.pair16 .de) .a s)

/-- R135 `LD A,(BC)`. -/
def execLdABcInd (s : State) : Result := .next (loadReg .a (s.pair16 .bc) s)

/-- R136 `LD A,(DE)`. -/
def execLdADeInd (s : State) : Result := .next (loadReg .a (s.pair16 .de) s)

/-- R131 `LD B,n`. -/
def execLdBN (n : Byte) (s : State) : Result := .next (s.setReg8 .b n)

/-- R131 `LD C,n`. -/
def execLdCN (n : Byte) (s : State) : Result := .next (s.setReg8 .c n)

/-- R131 `LD D,n`. -/
def execLdDN (n : Byte) (s : State) : Result := .next (s.setReg8 .d n)

/-- R131 `LD E,n`. -/
def execLdEN (n : Byte) (s : State) : Result := .next (s.setReg8 .e n)

/-- R131 `LD H,n`. -/
def execLdHN (n : Byte) (s : State) : Result := .next (s.setReg8 .h n)

/-- R131 `LD L,n`. -/
def execLdLN (n : Byte) (s : State) : Result := .next (s.setReg8 .l n)

/-- R134 `LD (HL),n`. -/
def execLdHlIndN (n : Byte) (s : State) : Result := .next (s.write8 (s.pair16 .hl) n)

/-- R131 `LD A,n`. -/
def execLdAN (n : Byte) (s : State) : Result := .next (s.setReg8 .a n)

/-- R130 `LD B,B`. -/
def execLdBB (s : State) : Result := .next (s.setReg8 .b (s.reg8 .b))

/-- R130 `LD B,C`. -/
def execLdBC (s : State) : Result := .next (s.setReg8 .b (s.reg8 .c))

/-- R130 `LD B,D`. -/
def execLdBD (s : State) : Result := .next (s.setReg8 .b (s.reg8 .d))

/-- R130 `LD B,E`. -/
def execLdBE (s : State) : Result := .next (s.setReg8 .b (s.reg8 .e))

/-- R130 `LD B,H`. -/
def execLdBH (s : State) : Result := .next (s.setReg8 .b (s.reg8 .h))

/-- R130 `LD B,L`. -/
def execLdBL (s : State) : Result := .next (s.setReg8 .b (s.reg8 .l))

/-- R132 `LD B,(HL)`. -/
def execLdBHlInd (s : State) : Result := .next (loadReg .b (s.pair16 .hl) s)

/-- R130 `LD B,A`. -/
def execLdBA (s : State) : Result := .next (s.setReg8 .b (s.reg8 .a))

/-- R130 `LD C,B`. -/
def execLdCB (s : State) : Result := .next (s.setReg8 .c (s.reg8 .b))

/-- R130 `LD C,C`. -/
def execLdCC (s : State) : Result := .next (s.setReg8 .c (s.reg8 .c))

/-- R130 `LD C,D`. -/
def execLdCD (s : State) : Result := .next (s.setReg8 .c (s.reg8 .d))

/-- R130 `LD C,E`. -/
def execLdCE (s : State) : Result := .next (s.setReg8 .c (s.reg8 .e))

/-- R130 `LD C,H`. -/
def execLdCH (s : State) : Result := .next (s.setReg8 .c (s.reg8 .h))

/-- R130 `LD C,L`. -/
def execLdCL (s : State) : Result := .next (s.setReg8 .c (s.reg8 .l))

/-- R132 `LD C,(HL)`. -/
def execLdCHlInd (s : State) : Result := .next (loadReg .c (s.pair16 .hl) s)

/-- R130 `LD C,A`. -/
def execLdCA (s : State) : Result := .next (s.setReg8 .c (s.reg8 .a))

/-- R130 `LD D,B`. -/
def execLdDB (s : State) : Result := .next (s.setReg8 .d (s.reg8 .b))

/-- R130 `LD D,C`. -/
def execLdDC (s : State) : Result := .next (s.setReg8 .d (s.reg8 .c))

/-- R130 `LD D,D`. -/
def execLdDD (s : State) : Result := .next (s.setReg8 .d (s.reg8 .d))

/-- R130 `LD D,E`. -/
def execLdDE (s : State) : Result := .next (s.setReg8 .d (s.reg8 .e))

/-- R130 `LD D,H`. -/
def execLdDH (s : State) : Result := .next (s.setReg8 .d (s.reg8 .h))

/-- R130 `LD D,L`. -/
def execLdDL (s : State) : Result := .next (s.setReg8 .d (s.reg8 .l))

/-- R132 `LD D,(HL)`. -/
def execLdDHlInd (s : State) : Result := .next (loadReg .d (s.pair16 .hl) s)

/-- R130 `LD D,A`. -/
def execLdDA (s : State) : Result := .next (s.setReg8 .d (s.reg8 .a))

/-- R130 `LD E,B`. -/
def execLdEB (s : State) : Result := .next (s.setReg8 .e (s.reg8 .b))

/-- R130 `LD E,C`. -/
def execLdEC (s : State) : Result := .next (s.setReg8 .e (s.reg8 .c))

/-- R130 `LD E,D`. -/
def execLdED (s : State) : Result := .next (s.setReg8 .e (s.reg8 .d))

/-- R130 `LD E,E`. -/
def execLdEE (s : State) : Result := .next (s.setReg8 .e (s.reg8 .e))

/-- R130 `LD E,H`. -/
def execLdEH (s : State) : Result := .next (s.setReg8 .e (s.reg8 .h))

/-- R130 `LD E,L`. -/
def execLdEL (s : State) : Result := .next (s.setReg8 .e (s.reg8 .l))

/-- R132 `LD E,(HL)`. -/
def execLdEHlInd (s : State) : Result := .next (loadReg .e (s.pair16 .hl) s)

/-- R130 `LD E,A`. -/
def execLdEA (s : State) : Result := .next (s.setReg8 .e (s.reg8 .a))

/-- R130 `LD H,B`. -/
def execLdHB (s : State) : Result := .next (s.setReg8 .h (s.reg8 .b))

/-- R130 `LD H,C`. -/
def execLdHC (s : State) : Result := .next (s.setReg8 .h (s.reg8 .c))

/-- R130 `LD H,D`. -/
def execLdHD (s : State) : Result := .next (s.setReg8 .h (s.reg8 .d))

/-- R130 `LD H,E`. -/
def execLdHE (s : State) : Result := .next (s.setReg8 .h (s.reg8 .e))

/-- R130 `LD H,H`. -/
def execLdHH (s : State) : Result := .next (s.setReg8 .h (s.reg8 .h))

/-- R130 `LD H,L`. -/
def execLdHL (s : State) : Result := .next (s.setReg8 .h (s.reg8 .l))

/-- R132 `LD H,(HL)`. -/
def execLdHHlInd (s : State) : Result := .next (loadReg .h (s.pair16 .hl) s)

/-- R130 `LD H,A`. -/
def execLdHA (s : State) : Result := .next (s.setReg8 .h (s.reg8 .a))

/-- R130 `LD L,B`. -/
def execLdLB (s : State) : Result := .next (s.setReg8 .l (s.reg8 .b))

/-- R130 `LD L,C`. -/
def execLdLC (s : State) : Result := .next (s.setReg8 .l (s.reg8 .c))

/-- R130 `LD L,D`. -/
def execLdLD (s : State) : Result := .next (s.setReg8 .l (s.reg8 .d))

/-- R130 `LD L,E`. -/
def execLdLE (s : State) : Result := .next (s.setReg8 .l (s.reg8 .e))

/-- R130 `LD L,H`. -/
def execLdLH (s : State) : Result := .next (s.setReg8 .l (s.reg8 .h))

/-- R130 `LD L,L`. -/
def execLdLL (s : State) : Result := .next (s.setReg8 .l (s.reg8 .l))

/-- R132 `LD L,(HL)`. -/
def execLdLHlInd (s : State) : Result := .next (loadReg .l (s.pair16 .hl) s)

/-- R130 `LD L,A`. -/
def execLdLA (s : State) : Result := .next (s.setReg8 .l (s.reg8 .a))

/-- R133 `LD (HL),B`. -/
def execLdHlIndB (s : State) : Result := .next (storeReg (s.pair16 .hl) .b s)

/-- R133 `LD (HL),C`. -/
def execLdHlIndC (s : State) : Result := .next (storeReg (s.pair16 .hl) .c s)

/-- R133 `LD (HL),D`. -/
def execLdHlIndD (s : State) : Result := .next (storeReg (s.pair16 .hl) .d s)

/-- R133 `LD (HL),E`. -/
def execLdHlIndE (s : State) : Result := .next (storeReg (s.pair16 .hl) .e s)

/-- R133 `LD (HL),H`. -/
def execLdHlIndH (s : State) : Result := .next (storeReg (s.pair16 .hl) .h s)

/-- R133 `LD (HL),L`. -/
def execLdHlIndL (s : State) : Result := .next (storeReg (s.pair16 .hl) .l s)

/-- R133 `LD (HL),A`. -/
def execLdHlIndA (s : State) : Result := .next (storeReg (s.pair16 .hl) .a s)

/-- R130 `LD A,B`. -/
def execLdAB (s : State) : Result := .next (s.setReg8 .a (s.reg8 .b))

/-- R130 `LD A,C`. -/
def execLdAC (s : State) : Result := .next (s.setReg8 .a (s.reg8 .c))

/-- R130 `LD A,D`. -/
def execLdAD (s : State) : Result := .next (s.setReg8 .a (s.reg8 .d))

/-- R130 `LD A,E`. -/
def execLdAE (s : State) : Result := .next (s.setReg8 .a (s.reg8 .e))

/-- R130 `LD A,H`. -/
def execLdAH (s : State) : Result := .next (s.setReg8 .a (s.reg8 .h))

/-- R130 `LD A,L`. -/
def execLdAL (s : State) : Result := .next (s.setReg8 .a (s.reg8 .l))

/-- R132 `LD A,(HL)`. -/
def execLdAHlInd (s : State) : Result := .next (loadReg .a (s.pair16 .hl) s)

/-- R130 `LD A,A`. -/
def execLdAA (s : State) : Result := .next (s.setReg8 .a (s.reg8 .a))

/-- R141 `LD (nn),A`. -/
def execLdNnIndAZ80 (nn : Word) (s : State) : Result := .next (storeReg nn .a s)

/-- R142 `LD A,(nn)`. -/
def execLdANnIndZ80 (nn : Word) (s : State) : Result := .next (loadReg .a nn s)

/-- R143 `LD (HL+),A`. -/
def execLdHlIncA (s : State) : Result := .next (adjustHl 1 (storeReg (s.pair16 .hl) .a s))

/-- R144 `LD A,(HL+)`. -/
def execLdAHlInc (s : State) : Result := .next (adjustHl 1 (loadReg .a (s.pair16 .hl) s))

/-- R145 `LD (HL-),A`. -/
def execLdHlDecA (s : State) : Result := .next (adjustHl (-1) (storeReg (s.pair16 .hl) .a s))

/-- R146 `LD A,(HL-)`. -/
def execLdAHlDec (s : State) : Result := .next (adjustHl (-1) (loadReg .a (s.pair16 .hl) s))

/-- R149 `LDH (n),A`. -/
def execLdhNIndA (n : Byte) (s : State) : Result := .next (storeReg (s.ldhAddr n) .a s)

/-- R147 `LD (C),A`. -/
def execLdCIndA (s : State) : Result := .next (storeReg (highAddr (s.reg8 .c) false) .a s)

/-- R139 `LD (nn),A`. -/
def execLdNnIndALr (nn : Word) (s : State) : Result := .next (storeReg nn .a s)

/-- R150 `LDH A,(n)`. -/
def execLdhANInd (n : Byte) (s : State) : Result := .next (loadReg .a (s.ldhAddr n) s)

/-- R148 `LD A,(C)`. -/
def execLdACInd (s : State) : Result := .next (loadReg .a (highAddr (s.reg8 .c) false) s)

/-- R140 `LD A,(nn)`. -/
def execLdANnIndLr (nn : Word) (s : State) : Result := .next (loadReg .a nn s)

end Sys2Proof.Machine
end

