-- ==== Sys2Proof/Machine/Dispatch.lean ====
section
/-! DEFINITION. One arm per instruction: the meaning of each row of `spec/opcode_table.json`. Every meaning is applied to
the state whose PC the decoder has already advanced (`30_encoding.md` R101). -/

namespace Sys2Proof.Machine

def exec (i : Instr) (s : State) : Host.Outcome State Fault Refusal :=
  match i with
  | .nop => Sys2Proof.Machine.execNop s
  | .ldBcNn nn => Sys2Proof.Machine.execLdBcNn nn s
  | .ldDeNn nn => Sys2Proof.Machine.execLdDeNn nn s
  | .ldHlNn nn => Sys2Proof.Machine.execLdHlNn nn s
  | .ldSpNn nn => Sys2Proof.Machine.execLdSpNn nn s
  | .ldBcIndA => Sys2Proof.Machine.execLdBcIndA s
  | .ldDeIndA => Sys2Proof.Machine.execLdDeIndA s
  | .ldABcInd => Sys2Proof.Machine.execLdABcInd s
  | .ldADeInd => Sys2Proof.Machine.execLdADeInd s
  | .incBc => Sys2Proof.Machine.execIncBc s
  | .decBc => Sys2Proof.Machine.execDecBc s
  | .addHlBc => Sys2Proof.Machine.execAddHlBc s
  | .incDe => Sys2Proof.Machine.execIncDe s
  | .decDe => Sys2Proof.Machine.execDecDe s
  | .addHlDe => Sys2Proof.Machine.execAddHlDe s
  | .incHl => Sys2Proof.Machine.execIncHl s
  | .decHl => Sys2Proof.Machine.execDecHl s
  | .addHlHl => Sys2Proof.Machine.execAddHlHl s
  | .incSp => Sys2Proof.Machine.execIncSp s
  | .decSp => Sys2Proof.Machine.execDecSp s
  | .addHlSp => Sys2Proof.Machine.execAddHlSp s
  | .incB => Sys2Proof.Machine.execIncB s
  | .decB => Sys2Proof.Machine.execDecB s
  | .ldBN n => Sys2Proof.Machine.execLdBN n s
  | .incC => Sys2Proof.Machine.execIncC s
  | .decC => Sys2Proof.Machine.execDecC s
  | .ldCN n => Sys2Proof.Machine.execLdCN n s
  | .incD => Sys2Proof.Machine.execIncD s
  | .decD => Sys2Proof.Machine.execDecD s
  | .ldDN n => Sys2Proof.Machine.execLdDN n s
  | .incE => Sys2Proof.Machine.execIncE s
  | .decE => Sys2Proof.Machine.execDecE s
  | .ldEN n => Sys2Proof.Machine.execLdEN n s
  | .incH => Sys2Proof.Machine.execIncH s
  | .decH => Sys2Proof.Machine.execDecH s
  | .ldHN n => Sys2Proof.Machine.execLdHN n s
  | .incL => Sys2Proof.Machine.execIncL s
  | .decL => Sys2Proof.Machine.execDecL s
  | .ldLN n => Sys2Proof.Machine.execLdLN n s
  | .incHlInd => Sys2Proof.Machine.execIncHlInd s
  | .decHlInd => Sys2Proof.Machine.execDecHlInd s
  | .ldHlIndN n => Sys2Proof.Machine.execLdHlIndN n s
  | .incA => Sys2Proof.Machine.execIncA s
  | .decA => Sys2Proof.Machine.execDecA s
  | .ldAN n => Sys2Proof.Machine.execLdAN n s
  | .jr e => Sys2Proof.Machine.execJr e s
  | .jrNz e => Sys2Proof.Machine.execJrNz e s
  | .jrZ e => Sys2Proof.Machine.execJrZ e s
  | .jrNc e => Sys2Proof.Machine.execJrNc e s
  | .jrC e => Sys2Proof.Machine.execJrC e s
  | .ldBB => Sys2Proof.Machine.execLdBB s
  | .ldBC => Sys2Proof.Machine.execLdBC s
  | .ldBD => Sys2Proof.Machine.execLdBD s
  | .ldBE => Sys2Proof.Machine.execLdBE s
  | .ldBH => Sys2Proof.Machine.execLdBH s
  | .ldBL => Sys2Proof.Machine.execLdBL s
  | .ldBHlInd => Sys2Proof.Machine.execLdBHlInd s
  | .ldBA => Sys2Proof.Machine.execLdBA s
  | .ldCB => Sys2Proof.Machine.execLdCB s
  | .ldCC => Sys2Proof.Machine.execLdCC s
  | .ldCD => Sys2Proof.Machine.execLdCD s
  | .ldCE => Sys2Proof.Machine.execLdCE s
  | .ldCH => Sys2Proof.Machine.execLdCH s
  | .ldCL => Sys2Proof.Machine.execLdCL s
  | .ldCHlInd => Sys2Proof.Machine.execLdCHlInd s
  | .ldCA => Sys2Proof.Machine.execLdCA s
  | .ldDB => Sys2Proof.Machine.execLdDB s
  | .ldDC => Sys2Proof.Machine.execLdDC s
  | .ldDD => Sys2Proof.Machine.execLdDD s
  | .ldDE => Sys2Proof.Machine.execLdDE s
  | .ldDH => Sys2Proof.Machine.execLdDH s
  | .ldDL => Sys2Proof.Machine.execLdDL s
  | .ldDHlInd => Sys2Proof.Machine.execLdDHlInd s
  | .ldDA => Sys2Proof.Machine.execLdDA s
  | .ldEB => Sys2Proof.Machine.execLdEB s
  | .ldEC => Sys2Proof.Machine.execLdEC s
  | .ldED => Sys2Proof.Machine.execLdED s
  | .ldEE => Sys2Proof.Machine.execLdEE s
  | .ldEH => Sys2Proof.Machine.execLdEH s
  | .ldEL => Sys2Proof.Machine.execLdEL s
  | .ldEHlInd => Sys2Proof.Machine.execLdEHlInd s
  | .ldEA => Sys2Proof.Machine.execLdEA s
  | .ldHB => Sys2Proof.Machine.execLdHB s
  | .ldHC => Sys2Proof.Machine.execLdHC s
  | .ldHD => Sys2Proof.Machine.execLdHD s
  | .ldHE => Sys2Proof.Machine.execLdHE s
  | .ldHH => Sys2Proof.Machine.execLdHH s
  | .ldHL => Sys2Proof.Machine.execLdHL s
  | .ldHHlInd => Sys2Proof.Machine.execLdHHlInd s
  | .ldHA => Sys2Proof.Machine.execLdHA s
  | .ldLB => Sys2Proof.Machine.execLdLB s
  | .ldLC => Sys2Proof.Machine.execLdLC s
  | .ldLD => Sys2Proof.Machine.execLdLD s
  | .ldLE => Sys2Proof.Machine.execLdLE s
  | .ldLH => Sys2Proof.Machine.execLdLH s
  | .ldLL => Sys2Proof.Machine.execLdLL s
  | .ldLHlInd => Sys2Proof.Machine.execLdLHlInd s
  | .ldLA => Sys2Proof.Machine.execLdLA s
  | .ldHlIndB => Sys2Proof.Machine.execLdHlIndB s
  | .ldHlIndC => Sys2Proof.Machine.execLdHlIndC s
  | .ldHlIndD => Sys2Proof.Machine.execLdHlIndD s
  | .ldHlIndE => Sys2Proof.Machine.execLdHlIndE s
  | .ldHlIndH => Sys2Proof.Machine.execLdHlIndH s
  | .ldHlIndL => Sys2Proof.Machine.execLdHlIndL s
  | .ldHlIndA => Sys2Proof.Machine.execLdHlIndA s
  | .ldAB => Sys2Proof.Machine.execLdAB s
  | .ldAC => Sys2Proof.Machine.execLdAC s
  | .ldAD => Sys2Proof.Machine.execLdAD s
  | .ldAE => Sys2Proof.Machine.execLdAE s
  | .ldAH => Sys2Proof.Machine.execLdAH s
  | .ldAL => Sys2Proof.Machine.execLdAL s
  | .ldAHlInd => Sys2Proof.Machine.execLdAHlInd s
  | .ldAA => Sys2Proof.Machine.execLdAA s
  | .addAB => Sys2Proof.Machine.execAddAB s
  | .addAC => Sys2Proof.Machine.execAddAC s
  | .addAD => Sys2Proof.Machine.execAddAD s
  | .addAE => Sys2Proof.Machine.execAddAE s
  | .addAH => Sys2Proof.Machine.execAddAH s
  | .addAL => Sys2Proof.Machine.execAddAL s
  | .addAHlInd => Sys2Proof.Machine.execAddAHlInd s
  | .addAA => Sys2Proof.Machine.execAddAA s
  | .addAN n => Sys2Proof.Machine.execAddAN n s
  | .retNz => Sys2Proof.Machine.execRetNz s
  | .jpNz nn => Sys2Proof.Machine.execJpNz nn s
  | .callNz nn => Sys2Proof.Machine.execCallNz nn s
  | .retZ => Sys2Proof.Machine.execRetZ s
  | .jpZ nn => Sys2Proof.Machine.execJpZ nn s
  | .callZ nn => Sys2Proof.Machine.execCallZ nn s
  | .retNc => Sys2Proof.Machine.execRetNc s
  | .jpNc nn => Sys2Proof.Machine.execJpNc nn s
  | .callNc nn => Sys2Proof.Machine.execCallNc nn s
  | .retC => Sys2Proof.Machine.execRetC s
  | .jpC nn => Sys2Proof.Machine.execJpC nn s
  | .callC nn => Sys2Proof.Machine.execCallC nn s
  | .retPo => Sys2Proof.Machine.execRetPo s
  | .jpPo nn => Sys2Proof.Machine.execJpPo nn s
  | .callPo nn => Sys2Proof.Machine.execCallPo nn s
  | .retPe => Sys2Proof.Machine.execRetPe s
  | .jpPe nn => Sys2Proof.Machine.execJpPe nn s
  | .callPe nn => Sys2Proof.Machine.execCallPe nn s
  | .retP => Sys2Proof.Machine.execRetP s
  | .jpP nn => Sys2Proof.Machine.execJpP nn s
  | .callP nn => Sys2Proof.Machine.execCallP nn s
  | .retM => Sys2Proof.Machine.execRetM s
  | .jpM nn => Sys2Proof.Machine.execJpM nn s
  | .callM nn => Sys2Proof.Machine.execCallM nn s
  | .jp nn => Sys2Proof.Machine.execJp nn s
  | .ret => Sys2Proof.Machine.execRet s
  | .call nn => Sys2Proof.Machine.execCall nn s
  | .jpHlInd => Sys2Proof.Machine.execJpHlInd s
  | .ldSpHl => Sys2Proof.Machine.execLdSpHl s
  | .di => Sys2Proof.Machine.execDi s
  | .ei => Sys2Proof.Machine.execEi s
  | .ldNnIndHl nn => Sys2Proof.Machine.execLdNnIndHl nn s
  | .ldHlNnInd nn => Sys2Proof.Machine.execLdHlNnInd nn s
  | .ldNnIndAZ80 nn => Sys2Proof.Machine.execLdNnIndAZ80 nn s
  | .ldANnIndZ80 nn => Sys2Proof.Machine.execLdANnIndZ80 nn s
  | .ldi => Sys2Proof.Machine.execLdi s
  | .ldHlIncA => Sys2Proof.Machine.execLdHlIncA s
  | .ldAHlInc => Sys2Proof.Machine.execLdAHlInc s
  | .ldHlDecA => Sys2Proof.Machine.execLdHlDecA s
  | .ldAHlDec => Sys2Proof.Machine.execLdAHlDec s
  | .reti => Sys2Proof.Machine.execReti s
  | .ldhNIndA n => Sys2Proof.Machine.execLdhNIndA n s
  | .ldCIndA => Sys2Proof.Machine.execLdCIndA s
  | .addSpN e => Sys2Proof.Machine.execAddSpN e s
  | .ldNnIndALr nn => Sys2Proof.Machine.execLdNnIndALr nn s
  | .ldhANInd n => Sys2Proof.Machine.execLdhANInd n s
  | .ldACInd => Sys2Proof.Machine.execLdACInd s
  | .ldHlSpN e => Sys2Proof.Machine.execLdHlSpN e s
  | .ldANnIndLr nn => Sys2Proof.Machine.execLdANnIndLr nn s
  | .swapB => Sys2Proof.Machine.execSwapB s
  | .swapC => Sys2Proof.Machine.execSwapC s
  | .swapD => Sys2Proof.Machine.execSwapD s
  | .swapE => Sys2Proof.Machine.execSwapE s
  | .swapH => Sys2Proof.Machine.execSwapH s
  | .swapL => Sys2Proof.Machine.execSwapL s
  | .swapHlInd => Sys2Proof.Machine.execSwapHlInd s
  | .swapA => Sys2Proof.Machine.execSwapA s

end Sys2Proof.Machine
end

