-- ==== Sys2Proof/Machine/Cpu.lean ====
section
/-! DEFINITION. Fetch, decode, execute (`30_encoding.md` R101), whose turn it is (`70_reset_and_hazards.md` R325), and the
placing of an instruction where the next step fetches. -/

namespace Sys2Proof.Machine

/-- `n` bytes at increasing addresses, read through the bus. -/
def readBytes : Nat → Word → State → List Byte × State
  | 0, _, s => ([], s)
  | n + 1, a, s =>
    let (b, s) := s.read8 a
    let (bs, s) := readBytes n (a + 1) s
    (b :: bs, s)

/-- The bytes of the instruction at PC (R101): the first byte, then as many more as it calls for. -/
def fetch (s : State) : List Byte × State :=
  let pc0 := s.cpu.pc
  let (b0, s) := s.read8 pc0
  let (bs, s) := readBytes (fetchLength s.config.variant b0 - 1) (pc0 + 1) s
  (b0 :: bs, s)

/-- After an instruction the deferred `EI` takes effect (R101). -/
def finishStep (wasEi : Bool) : Result → Result
  | .next s => .next (s.finishEi wasEi)
  | .fault r => .fault r
  | .refused r => .refused r

/-- One CPU step (R101): fetch, decode, advance PC, execute, finish a pending `EI`; or take the decode error. -/
def cpuStep (s : State) : Result :=
  let wasEi := s.cpu.eiPending
  let (bytes, s) := fetch s
  match decode s.config.variant bytes with
  | .ok (i, _) => finishStep wasEi (exec i (s.setPc (s.cpu.pc + BitVec.ofNat 16 bytes.length)))
  | .error _ => .fault (.decodeError (s.takeDecodeError wasEi bytes))

/-- One atomic action of a run (`70_reset_and_hazards.md` R325). Nothing is defined from a Fatal state
(`60_exceptions.md` R250). Inside a host `call` the CPU steps until PC is the value kept, tested before each step, and
then control returns to the host (R267); else the schedule says whose turn it is, the CPU's when it is empty. -/
def takeTurn (s : State) : Result :=
  match s.status with
  | .fatal r => .fault (.stopped r)
  | .running =>
    match s.callReturn with
    | some pc0 => if s.cpu.pc = pc0 then .next { s with callReturn := none } else cpuStep s
    | none =>
      match s.schedule with
      | [] => cpuStep s
      | .cpu :: rest => cpuStep { s with schedule := rest }
      | .host act :: rest => .next ({ s with schedule := rest }.perform act)

/-- Whether a conditional transfer is taken; true for every other instruction. -/
def branchTaken (i : Instr) (s : State) : Bool :=
  match i with
  | .jrNz _ => s.cond .nz
  | .jrZ _ => s.cond .z
  | .jrNc _ => s.cond .nc
  | .jrC _ => s.cond .c
  | .jpNz _ => s.cond .nz
  | .jpZ _ => s.cond .z
  | .jpNc _ => s.cond .nc
  | .jpC _ => s.cond .c
  | .jpPo _ => s.cond .po
  | .jpPe _ => s.cond .pe
  | .jpP _ => s.cond .p
  | .jpM _ => s.cond .m
  | .callNz _ => s.cond .nz
  | .callZ _ => s.cond .z
  | .callNc _ => s.cond .nc
  | .callC _ => s.cond .c
  | .callPo _ => s.cond .po
  | .callPe _ => s.cond .pe
  | .callP _ => s.cond .p
  | .callM _ => s.cond .m
  | .retNz => s.cond .nz
  | .retZ => s.cond .z
  | .retNc => s.cond .nc
  | .retC => s.cond .c
  | .retPo => s.cond .po
  | .retPe => s.cond .pe
  | .retP => s.cond .p
  | .retM => s.cond .m
  | _ => true

/-- What `step()` returns to the host (`70_reset_and_hazards.md` R326): the cycle count of the instruction it ran, none
after a decode error. No state depends on it. -/
def stepReturn (s : State) : Option Nat :=
  match decode s.config.variant (fetch s).1 with
  | .ok (i, _) => some (Config.cycles s.config.variant i (branchTaken i s))
  | .error _ => none

/-- `a` with a byte of storage at it: where no RAM, ROM or APU owns the address, a one-byte RAM window is put in front. -/
def withStorage (c : Config) (a : Word) : Config :=
  match ownerOf c a with
  | some .ram => c
  | some .rom => c
  | some .apu => c
  | some (.platform _) => { c with peripherals := { first := a, last := a, device := .ram } :: c.peripherals }
  | none => { c with peripherals := { first := a, last := a, device := .ram } :: c.peripherals }

/-- Put `v` in the storage at `a`, as a loader outside the machine does: no register write, no side effect. -/
def State.placeByte (s : State) (a : Word) (v : Byte) : State :=
  let s := { s with config := withStorage s.config a }
  match ownerOf s.config a with
  | some .apu => { s with bus := { s.bus with apu := s.bus.apu.setShadow a v } }
  | some .ram => { s with bus := { s.bus with mem := s.bus.mem.write a.toNat v } }
  | some .rom => { s with bus := { s.bus with mem := s.bus.mem.write a.toNat v } }
  | some (.platform _) => s
  | none => s

/-- Put bytes in storage from `a` on. -/
def State.placeBytes (s : State) (a : Word) : List Byte → State
  | [] => s
  | v :: bs => (s.placeByte a v).placeBytes (a + 1) bs

/-- Make a CPU step from PC the very next action: running, no host call under way, the CPU's turn. -/
def State.cpuNext (s : State) : State :=
  { s with
    status := .running
    callReturn := none
    schedule := match s.schedule with
      | [] => []
      | t :: rest => .cpu :: t :: rest }

/-- The state with a table word where the next step fetches, on a variant that decodes it (assumptions 15 and 16). -/
def State.placeWord (s : State) (nbits w : Nat) : State :=
  let s := { s with config := { s.config with variant := tableVariant s.config.variant nbits w } }
  (s.placeBytes s.cpu.pc (tableBytes nbits w)).cpuNext

end Sys2Proof.Machine
end

