-- ==== Sys2Proof/Machine/Step.lean ====
section
/-! DEFINITION. The step of the model and the placing of an instruction for it; both are in `Machine/Cpu.lean`. -/

namespace Sys2Proof.Machine

/-- One step of the model: one atomic action of a run (`70_reset_and_hazards.md` R325). -/
def step (s : State) : Host.Outcome State Fault Refusal := takeTurn s

/-- `s` with the instruction stored where `step` fetches its next one (assumption 16). -/
def State.withFetchWord (s : State) (nbits w : Nat) : State := s.placeWord nbits w

end Sys2Proof.Machine
end

