-- ==== Sys2Proof/Safety.lean ====
section
/-! DEFINITION. What a safe run is and the invariant of the machine, in the terms the statements use. -/

namespace Sys2Proof.Machine

/-- The keys of a canonical memory are addresses in `[lo, hi]`. -/
abbrev Memory.within (m : Memory) (lo hi : Nat) : Prop := ∀ x ∈ m, lo ≤ x.1 ∧ x.1 ≤ hi

/-- What holds of a bus in every reachable state (`60_exceptions.md` R274; `20_memory.md` R69, R270): both storages are in
canonical form, RAM and ROM bytes are listed under addresses that a RAM or ROM window owns, shadow bytes under the APU
window, and the length counters are in 0..64. -/
structure BusInv (c : Config) (b : Bus) : Prop where
  mem_wf : b.mem.wf
  mem_within : b.mem.within 0 0xFFFF
  mem_owned : ∀ x ∈ b.mem, ownerOf c (BitVec.ofNat 16 x.1) = some .ram ∨ ownerOf c (BitVec.ofNat 16 x.1) = some .rom
  shadow_wf : b.apu.shadow.wf
  shadow_within : b.apu.shadow.within 0xFF10 0xFF3F
  length1 : b.apu.pulse1.lengthCounter ≤ 64
  length2 : b.apu.pulse2.lengthCounter ≤ 64

/-- The invariant of the machine: the parameters are legal (`00_scope.md` R6), the bus invariant holds, F as stored has
no bit that F as read lacks (`10_state.md` R26), IFF1 and IFF2 are equal (R31), and the machine runs. -/
structure Inv (s : State) : Prop where
  config : s.config.wf
  bus : BusInv s.config s.bus
  f_masked : s.cpu.f = maskF s.config.variant s.cpu.f
  iff_eq : s.cpu.iff1 = s.cpu.iff2
  running : s.status = .running

/-- `k` steps from `s` end in a state that runs: no fault and no refusal on the way (`60_exceptions.md` R250: a claim
about a run is refuted by Fatal). -/
def SafeRun : Nat → State → Prop
  | 0, s => s.status = .running
  | k + 1, s => ∃ t, step s = .next t ∧ SafeRun k t

/-- `t` is reached from `s` by steps. -/
inductive Reaches : State → State → Prop where
  | refl (s : State) : Reaches s s
  | step {s t u : State} : Machine.step s = .next t → Reaches t u → Reaches s u

end Sys2Proof.Machine
end

