-- ==== Sys2Proof/Certificates/Slice0/Obligations.lean ====
section
/-! DEFINITION. The statements for the provers. The words they are written in come first (namespace `Sys2Proof.Stated`),
then one `def Obligations.<Name> : Prop` per statement. Where a docstring cites a rule as "the spec's own choice", the
spec marks the rule as a decision (D<n>) or as general knowledge. -/

namespace Sys2Proof.Stated

open Sys2Proof.Machine

/-! ## The rows of the opcode table by shape -/

/-- The rows of `LD r,r'` with destination and source (R130). Part 1. -/
def copyRows1 : List (Instr × Reg8 × Reg8) :=
  [ (.ldBB, .b, .b), (.ldBC, .b, .c), (.ldBD, .b, .d), (.ldBE, .b, .e), (.ldBH, .b, .h), (.ldBL, .b, .l),
    (.ldBA, .b, .a), (.ldCB, .c, .b), (.ldCC, .c, .c), (.ldCD, .c, .d), (.ldCE, .c, .e), (.ldCH, .c, .h),
    (.ldCL, .c, .l), (.ldCA, .c, .a), (.ldDB, .d, .b), (.ldDC, .d, .c), (.ldDD, .d, .d), (.ldDE, .d, .e),
    (.ldDH, .d, .h), (.ldDL, .d, .l), (.ldDA, .d, .a), (.ldEB, .e, .b), (.ldEC, .e, .c), (.ldED, .e, .d),
    (.ldEE, .e, .e), (.ldEH, .e, .h), (.ldEL, .e, .l), (.ldEA, .e, .a) ]

/-- The rows of `LD r,r'` with destination and source (R130). Part 2. -/
def copyRows2 : List (Instr × Reg8 × Reg8) :=
  [ (.ldHB, .h, .b), (.ldHC, .h, .c), (.ldHD, .h, .d), (.ldHE, .h, .e), (.ldHH, .h, .h), (.ldHL, .h, .l),
    (.ldHA, .h, .a), (.ldLB, .l, .b), (.ldLC, .l, .c), (.ldLD, .l, .d), (.ldLE, .l, .e), (.ldLH, .l, .h),
    (.ldLL, .l, .l), (.ldLA, .l, .a), (.ldAB, .a, .b), (.ldAC, .a, .c), (.ldAD, .a, .d), (.ldAE, .a, .e),
    (.ldAH, .a, .h), (.ldAL, .a, .l), (.ldAA, .a, .a) ]

/-- The rows of `LD r,r'` with destination and source (R130). -/
def copyRows : List (Instr × Reg8 × Reg8) := copyRows1 ++ copyRows2

/-- The rows of `LD r,n` (R131). -/
def immRows : List ((Byte → Instr) × Reg8) :=
  [ (.ldBN, .b), (.ldCN, .c), (.ldDN, .d), (.ldEN, .e), (.ldHN, .h), (.ldLN, .l), (.ldAN, .a) ]

/-- The rows of `LD r,(HL)` (R132). -/
def loadHlRows : List (Instr × Reg8) :=
  [ (.ldBHlInd, .b), (.ldCHlInd, .c), (.ldDHlInd, .d), (.ldEHlInd, .e), (.ldHHlInd, .h), (.ldLHlInd, .l), (.ldAHlInd, .a) ]

/-- The rows of `LD (HL),r` (R133). -/
def storeHlRows : List (Instr × Reg8) :=
  [ (.ldHlIndB, .b), (.ldHlIndC, .c), (.ldHlIndD, .d), (.ldHlIndE, .e), (.ldHlIndH, .h), (.ldHlIndL, .l), (.ldHlIndA, .a) ]

/-- The rows of `INC r` (R190). -/
def incRows : List (Instr × Reg8) :=
  [ (.incB, .b), (.incC, .c), (.incD, .d), (.incE, .e), (.incH, .h), (.incL, .l), (.incA, .a) ]

/-- The rows of `DEC r` (R192). -/
def decRows : List (Instr × Reg8) :=
  [ (.decB, .b), (.decC, .c), (.decD, .d), (.decE, .e), (.decH, .h), (.decL, .l), (.decA, .a) ]

/-- The rows of `ADD A,r` (R196). -/
def addRows : List (Instr × Reg8) :=
  [ (.addAB, .b), (.addAC, .c), (.addAD, .d), (.addAE, .e), (.addAH, .h), (.addAL, .l), (.addAA, .a) ]

/-- The rows of `SWAP r` (R201). -/
def swapRows : List (Instr × Reg8) :=
  [ (.swapB, .b), (.swapC, .c), (.swapD, .d), (.swapE, .e), (.swapH, .h), (.swapL, .l), (.swapA, .a) ]

/-- The rows of `LD rr,nn` (R170). -/
def pairImmRows : List ((Word → Instr) × Reg16) :=
  [ (.ldBcNn, .bc), (.ldDeNn, .de), (.ldHlNn, .hl), (.ldSpNn, .sp) ]

/-- The rows of `INC rr` (R194). -/
def incPairRows : List (Instr × Reg16) :=
  [ (.incBc, .bc), (.incDe, .de), (.incHl, .hl), (.incSp, .sp) ]

/-- The rows of `DEC rr` (R195). -/
def decPairRows : List (Instr × Reg16) :=
  [ (.decBc, .bc), (.decDe, .de), (.decHl, .hl), (.decSp, .sp) ]

/-- The rows of `ADD HL,rr` (R199). -/
def addHlRows : List (Instr × Reg16) :=
  [ (.addHlBc, .bc), (.addHlDe, .de), (.addHlHl, .hl), (.addHlSp, .sp) ]

/-- The rows of `JP cc,nn` (R222). -/
def jumpRows : List ((Word → Instr) × Cond) :=
  [ (.jpNz, .nz), (.jpZ, .z), (.jpNc, .nc), (.jpC, .c), (.jpPo, .po), (.jpPe, .pe), (.jpP, .p), (.jpM, .m) ]

/-- The rows of `JR cc,e` (R225). -/
def relativeRows : List ((Byte → Instr) × Cond) :=
  [ (.jrNz, .nz), (.jrZ, .z), (.jrNc, .nc), (.jrC, .c) ]

/-- The rows of `CALL cc,nn` (R227). -/
def callRows : List ((Word → Instr) × Cond) :=
  [ (.callNz, .nz), (.callZ, .z), (.callNc, .nc), (.callC, .c), (.callPo, .po), (.callPe, .pe), (.callP, .p), (.callM, .m) ]

/-- The rows of `RET cc` (R229). -/
def returnRows : List (Instr × Cond) :=
  [ (.retNz, .nz), (.retZ, .z), (.retNc, .nc), (.retC, .c), (.retPo, .po), (.retPe, .pe), (.retP, .p), (.retM, .m) ]

/-- The 3-bit register code (R105). -/
def regCode : Reg8 → Nat
  | .b => 0
  | .c => 1
  | .d => 2
  | .e => 3
  | .h => 4
  | .l => 5
  | .a => 7

/-- The 2-bit pair code (R105). -/
def pairCode : Reg16 → Nat
  | .bc => 0
  | .de => 1
  | .hl => 2
  | .sp => 3

/-- The condition code (R105). -/
def condCode : Cond → Nat
  | .nz => 0
  | .z => 1
  | .nc => 2
  | .c => 3
  | .po => 4
  | .pe => 5
  | .p => 6
  | .m => 7

/-- The rows that write F: the table of R28. -/
def flagWriters : List Instr :=
  incRows.map (·.1) ++ decRows.map (·.1) ++ addRows.map (·.1) ++ swapRows.map (·.1) ++ addHlRows.map (·.1) ++
    [.incHlInd, .decHlInd, .addAHlInd, .swapHlInd, .ldi]

/-- The instruction writes F (R28). -/
def WritesFlags (i : Instr) : Prop :=
  i ∈ flagWriters ∨ (∃ n, i = .addAN n) ∨ (∃ e, i = .addSpN e) ∨ (∃ e, i = .ldHlSpN e)

/-- The rows without an immediate that write memory: the column "Writes" of R73, `RET` and `RETI` left out. -/
def plainStorers : List Instr :=
  storeHlRows.map (·.1) ++
    [.incHlInd, .decHlInd, .swapHlInd, .ldBcIndA, .ldDeIndA, .ldHlIncA, .ldHlDecA, .ldCIndA, .ldi]

/-- The instruction can write memory (R73). -/
def Stores (i : Instr) : Prop :=
  i ∈ plainStorers ∨ (∃ n, i = .ldHlIndN n) ∨ (∃ n, i = .ldhNIndA n) ∨
    (∃ nn, i = .ldNnIndAZ80 nn ∨ i = .ldNnIndALr nn ∨ i = .ldNnIndHl nn ∨ i = .call nn) ∨
    (∃ p ∈ callRows, ∃ nn, i = p.1 nn)

/-! ## Frames -/

/-- One platform-supplied peripheral owns both addresses: what it answers is the platform's (`20_memory.md` R68). -/
def SharesDevice (c : Config) (x a : Word) : Prop :=
  ∃ id, ownerOf c x = some (.platform id) ∧ ownerOf c a = some (.platform id)

/-- What `t` keeps of `s`: every register byte but `regs`, every bit of F but the flags of `flags`, every byte of memory
but those at `stored` (and those of a platform-supplied peripheral that owns one of the `accessed` addresses), the APU
unless a stored address is its, and I, R, the shadow set, the parameters, the status and the run's schedule. -/
structure Kept (regs : List Reg8) (flags : List Flag) (accessed stored : List Word) (s t : State) : Prop where
  regs : ∀ r, r ∉ regs → t.reg8 r = s.reg8 r
  flags : ∀ k, (∀ fl ∈ flags, flagBit s.config.variant fl ≠ some k) → getBit t.regF k = getBit s.regF k
  bytes : ∀ a, a ∉ stored → (∀ x ∈ accessed, ¬ SharesDevice s.config x a) → t.peek8 a = s.peek8 a
  apu : (∀ x ∈ stored, ownerOf s.config x ≠ some .apu) → t.bus.apu = s.bus.apu
  i : t.cpu.i = s.cpu.i
  r : t.cpu.r = s.cpu.r
  shadow : t.cpu.shadow = s.cpu.shadow
  config : t.config = s.config
  status : t.status = s.status
  schedule : t.schedule = s.schedule
  callReturn : t.callReturn = s.callReturn

/-- The interrupt state is as before. -/
def SameInterrupts (s t : State) : Prop :=
  t.cpu.iff1 = s.cpu.iff1 ∧ t.cpu.iff2 = s.cpu.iff2 ∧ t.cpu.eiPending = s.cpu.eiPending

/-- PC (already PCnext), SP and the interrupt state are as before. -/
def Plain (s t : State) : Prop := t.cpu.pc = s.cpu.pc ∧ t.cpu.sp = s.cpu.sp ∧ SameInterrupts s t

/-- PC and the interrupt state are as before. -/
def PlainButSp (s t : State) : Prop := t.cpu.pc = s.cpu.pc ∧ SameInterrupts s t

/-- `t` differs from `s` by one bus write of `v` at `a`: RAM and the APU window read back the byte, an unowned
address (`20_memory.md` R63, D14) and a ROM (R79, D15, log entry 19) read as before. -/
def StoredByte (a : Word) (v : Byte) (s t : State) : Prop :=
  t.bus = (s.write8 a v).bus ∧
    (ownerOf s.config a = some .ram ∨ ownerOf s.config a = some .apu → t.peek8 a = v) ∧
    (ownerOf s.config a = none ∨ ownerOf s.config a = some .rom → t.peek8 a = s.peek8 a)

/-- F's flags are these: Z, N, H, and on the Z80 S and P/V. -/
def FlagsZNH (t : State) (z n h sign pv : Bool) : Prop :=
  t.flag .z = z ∧ t.flag .n = n ∧ t.flag .h = h ∧ (t.config.variant = .z80 → t.flag .s = sign ∧ t.flag .pv = pv)

/-- The flags of `inc8(v)` (R205). -/
def IncFlags (v : Byte) (t : State) : Prop :=
  FlagsZNH t (v.toNat == 0xFF) false (v.toNat % 16 == 15) (decide (0x80 ≤ (v.toNat + 1) % 256)) (v.toNat == 0x7F)

/-- The flags of `dec8(v)` (R205). -/
def DecFlags (v : Byte) (t : State) : Prop :=
  FlagsZNH t (v.toNat == 1) true (v.toNat % 16 == 0) (decide (0x80 ≤ (v.toNat + 255) % 256)) (v.toNat == 0x80)

/-- A byte as a signed number. -/
def signed (v : Byte) : Int := if v.toNat < 0x80 then v.toNat else (v.toNat : Int) - 0x100

/-- The flags of `add8(a, b)` (R204): C is the carry out of bit 7, P/V says that the signed sum leaves -128..127. -/
def AddFlags (a b : Byte) (t : State) : Prop :=
  FlagsZNH t ((a.toNat + b.toNat) % 256 == 0) false (decide (0x0F < a.toNat % 16 + b.toNat % 16))
      (decide (0x80 ≤ (a.toNat + b.toNat) % 256)) (decide (signed a + signed b < -128 ∨ 127 < signed a + signed b)) ∧
    t.flag .c = decide (0xFF < a.toNat + b.toNat)

/-- A displacement as an addend modulo 2^16 (R10). -/
def displacement (e : Byte) : Nat := if e.toNat < 0x80 then e.toNat else e.toNat + 0xFF00

/-- The flags of `spadd(sp, e)` (R175). -/
def SpAddFlags (sp : Word) (e : Byte) (t : State) : Prop :=
  t.flag .z = false ∧ t.flag .n = false ∧
    t.flag .h = decide (0x0F < sp.toNat % 16 + e.toNat % 16) ∧
    t.flag .c = decide (0xFF < sp.toNat % 256 + e.toNat)

/-- The flags of `SWAP` with result `r` (R201). -/
def SwapFlags (r : Byte) (t : State) : Prop :=
  t.flag .z = (r == 0) ∧ t.flag .n = false ∧ t.flag .h = false ∧ t.flag .c = false

/-- The address of an `LDH` form (R149): sign-extended or not as `LDH_OFFSET` says. -/
def ldhTarget (o : LdhOffset) (n : Byte) : Word :=
  match o with
  | .signed => BitVec.ofNat 16 (0xFF00 + displacement n)
  | .unsigned => BitVec.ofNat 16 (0xFF00 + n.toNat)

/-- The next action of `s` is a CPU step, and `u` is the state it is taken from (`70_reset_and_hazards.md` R325,
`60_exceptions.md` R267; the form is the model's, log entries 12 and 13). -/
inductive CpuTurn (s : State) : State → Prop where
  /-- The schedule is empty. -/
  | idle : s.status = .running → s.callReturn = none → s.schedule = [] → CpuTurn s s
  /-- The schedule gives the CPU the turn; its entry is taken off. -/
  | scheduled (rest : List Turn) : s.status = .running → s.callReturn = none → s.schedule = .cpu :: rest →
      CpuTurn s { s with schedule := rest }
  /-- A host `call` is under way and PC is not yet the value kept. -/
  | inCall (pc0 : Word) : s.status = .running → s.callReturn = some pc0 → s.cpu.pc ≠ pc0 → CpuTurn s s

/-- The bytes `bs` stand at `a`, `a+1`, ... (modulo 2^16) in storage that a read does not change. -/
def BytesAt (s : State) : Word → List Byte → Prop
  | _, [] => True
  | a, b :: bs => s.peek8 a = b ∧ (∀ id, ownerOf s.config a ≠ some (.platform id)) ∧ BytesAt s (a + 1) bs

/-- The two states differ at most in what no instruction reads: I, R, the shadow set, IFF1, IFF2, the two pulse channels,
the sweep unit and the sequencer index. -/
structure SameToPrograms (s t : State) : Prop where
  config : t.config = s.config
  status : t.status = s.status
  schedule : t.schedule = s.schedule
  callReturn : t.callReturn = s.callReturn
  regs : ∀ r, t.reg8 r = s.reg8 r
  f : t.cpu.f = s.cpu.f
  sp : t.cpu.sp = s.cpu.sp
  pc : t.cpu.pc = s.cpu.pc
  eiPending : t.cpu.eiPending = s.cpu.eiPending
  mem : t.bus.mem = s.bus.mem
  shadowRam : t.bus.apu.shadow = s.bus.apu.shadow
  devLog : t.bus.devLog = s.bus.devLog

end Sys2Proof.Stated

open Sys2Proof Sys2Proof.Machine Sys2Proof.Stated

/-! ## Encoding -/

/-- Encoding and decoding agree: on every variant that has the instruction, its bytes decode to it, with every operand,
and the bytes after them are left (`30_encoding.md` R100 to R107). The bytes the source does not give are general
knowledge G1 to G5 and the spec's own choices D2 and D32 (log entry 27). -/
def Obligations.DecodeOfEncode : Prop :=
  ∀ (v : Variant) (i : Instr) (rest : List Byte), i.runsOn v = true → decode v (encode i ++ rest) = .ok (i, rest)

/-- What decodes is the encoding of an instruction of that variant: no other bytes are admitted (`30_encoding.md` R108,
R109). The bytes the source does not give are general knowledge G1 to G5 and the spec's own choices D2 and D32, and that
nothing else is admitted is its own choice D1 (log entry 27). -/
def Obligations.EncodeOfDecode : Prop :=
  ∀ (v : Variant) (bs : List Byte) (i : Instr) (rest : List Byte),
    decode v bs = .ok (i, rest) → bs = encode i ++ rest ∧ i.runsOn v = true

/-- The source's list of LR35902-only opcodes decodes as it says (`30_encoding.md` R104). -/
def Obligations.SourceOpcodesDecode : Prop :=
  (∀ n nn : Byte,
    decode .lr35902 [0x22] = .ok (.ldHlIncA, []) ∧ decode .lr35902 [0x2A] = .ok (.ldAHlInc, []) ∧
    decode .lr35902 [0x32] = .ok (.ldHlDecA, []) ∧ decode .lr35902 [0x3A] = .ok (.ldAHlDec, []) ∧
    decode .lr35902 [0xD9] = .ok (.reti, []) ∧ decode .lr35902 [0xE0, n] = .ok (.ldhNIndA n, []) ∧
    decode .lr35902 [0xE2] = .ok (.ldCIndA, []) ∧ decode .lr35902 [0xE8, n] = .ok (.addSpN n, []) ∧
    decode .lr35902 [0xEA, n, nn] = .ok (.ldNnIndALr (word nn n), []) ∧
    decode .lr35902 [0xF0, n] = .ok (.ldhANInd n, []) ∧ decode .lr35902 [0xF2] = .ok (.ldACInd, []) ∧
    decode .lr35902 [0xFA, n, nn] = .ok (.ldANnIndLr (word nn n), [])) ∧
  [0x30, 0x31, 0x32, 0x33, 0x34, 0x35, 0x36, 0x37].map (fun b => decode .lr35902 [0xCB, b]) =
    [.swapB, .swapC, .swapD, .swapE, .swapH, .swapL, .swapHlInd, .swapA].map (fun i => .ok (i, []))

/-! ## The step -/

/-- A CPU step, whatever gave the CPU the turn, executes the instruction its bytes decode to, on the state with the bytes
fetched and PC past them, and then the deferred `EI` of the step before takes effect (`30_encoding.md` R101). -/
def Obligations.StepExecutesDecodedInstruction : Prop :=
  ∀ (s u : State) (i : Instr) (rest : List Byte) (t : State), CpuTurn s u →
    decode u.config.variant (fetch u).1 = .ok (i, rest) →
    exec i ((fetch u).2.setPc (u.cpu.pc + BitVec.ofNat 16 (fetch u).1.length)) = .next t →
    step s = .next (t.finishEi u.cpu.eiPending)

/-- When the encoding of an instruction of the variant stands at PC, the step is that instruction, from PC moved past its
bytes, with the deferred `EI` after it (`30_encoding.md` R101, `20_memory.md` R77). -/
def Obligations.StepRunsInstructionAtPc : Prop :=
  ∀ (s u : State) (i : Instr) (t : State), CpuTurn s u → i.runsOn u.config.variant = true →
    BytesAt u u.cpu.pc (encode i) →
    exec i (u.setPc (u.cpu.pc + BitVec.ofNat 16 (encode i).length)) = .next t →
    step s = .next (t.finishEi u.cpu.eiPending)

/-- After the instruction that follows an `EI`, IFF1 and IFF2 are enabled and the flag is cleared, whatever that
instruction is (`70_reset_and_hazards.md` R322, `43_control.md` R238). The corner cases EI then DI and EI then EI are the
spec's own choice D10 (log entry 27). -/
def Obligations.EiTakesEffectAfterNextInstruction : Prop :=
  ∀ s u t : State, CpuTurn s u → s.cpu.eiPending = true → step s = .next t →
    t.cpu.iff1 = true ∧ t.cpu.iff2 = true ∧ t.cpu.eiPending = false

/-- Without a pending `EI` a CPU step changes IFF1 and IFF2 by `DI` and `RETI` only, and only `EI` sets the flag
(`10_state.md` R31, R32). That RETI writes IFF1 and IFF2 is general knowledge G12 and the spec's own choice D9 (log entry
27); that no interrupt entry does is its own choice D8 (R262, log entry 21). -/
def Obligations.OnlyDiRetiEiTouchInterrupts : Prop :=
  ∀ (s u t : State) (i : Instr) (rest : List Byte), CpuTurn s u → s.cpu.eiPending = false →
    decode s.config.variant (fetch s).1 = .ok (i, rest) → step s = .next t →
    (i ≠ .di → i ≠ .reti → t.cpu.iff1 = s.cpu.iff1 ∧ t.cpu.iff2 = s.cpu.iff2) ∧
    (t.cpu.eiPending = true ↔ i = .ei)

/-- Bytes that are no instruction of the variant are fatal (`60_exceptions.md` R251): the step faults, the state it
leaves has PC, registers, flags, memory and the APU as before, the status records the pc and the bytes read, and a
pending `EI` has taken effect. Fetching from unowned memory is such an error, with the byte 0xFF (`30_encoding.md` R108).
That PC stays is the spec's own choice D18 (log entry 10), which bytes are admitted its own choice D1 (log entry 27), and
the 0xFF of an unowned address R63, D14. -/
def Obligations.UnrecognisedBytesAreFatal : Prop :=
  ∀ s u : State, CpuTurn s u →
    (∀ e, decode s.config.variant (fetch s).1 = .error e →
      ∃ t, step s = .fault (.decodeError t) ∧
        t.status = .fatal (.decodeError s.cpu.pc (fetch s).1) ∧
        (fetch s).1.length ≤ 2 ∧
        t.cpu = { s.cpu with
          iff1 := s.cpu.iff1 || s.cpu.eiPending, iff2 := s.cpu.iff2 || s.cpu.eiPending, eiPending := false } ∧
        t.bus.mem = s.bus.mem ∧ t.bus.apu = s.bus.apu ∧ t.config = s.config ∧ t.schedule = u.schedule ∧
        t.callReturn = s.callReturn) ∧
    (ownerOf s.config s.cpu.pc = none →
      ∃ t, step s = .fault (.decodeError t) ∧ t.status = .fatal (.decodeError s.cpu.pc [0xFF]))

/-- The decode error is the only way a running machine stops, and no instruction is refused (`60_exceptions.md` R257,
R259, R260); a Fatal state has no step, whatever else it holds (R250, `10_state.md` R33). That an unowned access stops
nothing is R255 and the spec's own choice D14; that nothing else can stop a step is R252 and R256, D33; the form of the
two faults is the model's (log entry 10). -/
def Obligations.OnlyDecodeErrorsStopTheMachine : Prop :=
  ∀ s : State,
    (s.status = .running →
      (∃ t, step s = .next t ∧ t.status = .running) ∨
      (∃ t e, step s = .fault (.decodeError t) ∧ decode s.config.variant (fetch s).1 = .error e ∧
        t.status = .fatal (.decodeError s.cpu.pc (fetch s).1))) ∧
    (∀ r, s.status = .fatal r → step s = .fault (.stopped r))

/-- "Once an instruction has been decoded it always completes" (`60_exceptions.md` R259). The spec derives this rule from
its others. -/
def Obligations.EveryInstructionCompletes : Prop := ∀ (i : Instr) (s : State), ∃ t, exec i s = .next t

/-! ## Invariants and whole-machine rules -/

/-- Every step, a CPU step or a host action, keeps the invariant: canonical storage inside its windows, length counters
in 0..64, F masked, IFF1 = IFF2, legal parameters (`60_exceptions.md` R274, `10_state.md` R26, R31). The range 0..64 is
the spec's own choice D20 (conflict C2); the canonical form of storage and F stored masked are the model's (log entries 7
and 17). -/
def Obligations.StepKeepsInvariant : Prop := ∀ s t : State, Inv s → step s = .next t → Inv t

/-- The invariant holds after construction with any legal parameters and any launch values whose memory is canonical and
lies in RAM and ROM windows (`10_state.md` R40), and in particular at reset. The values of State.reset that the spec
leaves open are the model's choice (log entries 1 to 7); the APU's, IFF1's, IFF2's and the LR35902's F are the spec's own
choices D25, D5 and D7. -/
def Obligations.ConstructionMeetsInvariant : Prop :=
  (∀ (c : Config) (v : Launch), c.wf → v.mem.wf → v.mem.within 0 0xFFFF →
    (∀ x ∈ v.mem, ownerOf c (BitVec.ofNat 16 x.1) = some .ram ∨ ownerOf c (BitVec.ofNat 16 x.1) = some .rom) →
    Inv (State.launch c v)) ∧
  Inv State.reset

/-- What the spec gives for reset: A, F, SP, PC, IFF1, IFF2, `ei_pending`, the status and a silent APU (`10_state.md`
R40; F on the LR35902, IFF1, IFF2, `ei_pending` and the APU are the spec's own choices D7, D5, D25). The choices D5, D7
and D25 stand in log entries 8, 9 and 17. -/
def Obligations.ConstructionValues : Prop :=
  ∀ (c : Config) (v : Launch),
    let s := State.launch c v
    s.cpu.a = 0xFF ∧ s.cpu.sp = 0xFFFF ∧ s.cpu.pc = 0x0000 ∧
    s.regF = (if c.variant = .z80 then 0xFF else 0xF0) ∧
    s.cpu.iff1 = false ∧ s.cpu.iff2 = false ∧ s.cpu.eiPending = false ∧ s.status = .running ∧
    s.bus.apu.seqIndex = 0 ∧ s.bus.apu.pulse1.outAmplitude = 0 ∧ s.bus.apu.pulse2.outAmplitude = 0 ∧
    (∀ a, s.bus.apu.read a = 0)

/-- No step changes a parameter, I, R or the shadow set (`00_scope.md` R6; `10_state.md` R30, the spec's own choice D17).
That nothing writes I, R and the shadow set is D17 (log entry 6). -/
def Obligations.ParametersAndInertRegistersNeverChange : Prop :=
  ∀ s t : State, Reaches s t →
    t.config = s.config ∧ t.cpu.i = s.cpu.i ∧ t.cpu.r = s.cpu.r ∧ t.cpu.shadow = s.cpu.shadow

/-- No program can tell states apart that differ only in I, R, the shadow set, IFF1, IFF2 and the inner state of the sound
channels: a CPU step takes them to such states again, or stops both (`10_state.md` R30, R31; `60_exceptions.md` R288).
That none sees I, R and the shadow set is the spec's own choice D17 (log entry 6); that none sees IFF1 and IFF2 is its own
choice D8, no interrupt request is ever asserted (`60_exceptions.md` R262, log entry 21), which this statement presumes. -/
def Obligations.ChannelsAndInertRegistersAreInvisible : Prop :=
  ∀ s s' u : State, SameToPrograms s s' → CpuTurn s u →
    (∀ t, step s = .next t → ∃ t', step s' = .next t' ∧ SameToPrograms t t') ∧
    (∀ t, step s = .fault (.decodeError t) → ∃ t', step s' = .fault (.decodeError t') ∧ SameToPrograms t t')

/-- An instruction outside the table of R28 leaves F as it was (general knowledge G6 and the spec's own choice D16, log entry
27). -/
def Obligations.OtherInstructionsKeepF : Prop :=
  ∀ (i : Instr) (s t : State), ¬ WritesFlags i → exec i s = .next t → t.regF = s.regF

/-- An instruction that R73 gives no write leaves every byte of memory and the APU as they were. -/
def Obligations.OtherInstructionsStoreNothing : Prop :=
  ∀ (i : Instr) (s t : State), ¬ Stores i → exec i s = .next t →
    t.bus.mem = s.bus.mem ∧ t.bus.apu = s.bus.apu ∧
    (∀ a, (∀ id, ownerOf s.config a ≠ some (.platform id)) → t.peek8 a = s.peek8 a)

/-! ## Views of the registers -/

/-- A pair and its two bytes are the same storage (`10_state.md` R22): the pair reads `high * 256 + low` at all times,
a write of a pair splits, and a write of a byte shows in the pair. -/
def Obligations.PairsShareStorageWithBytes : Prop :=
  ∀ s : State,
    (s.pair .af).toNat = (s.reg8 .a).toNat * 256 + s.regF.toNat ∧
    (s.pair .bc).toNat = (s.reg8 .b).toNat * 256 + (s.reg8 .c).toNat ∧
    (s.pair .de).toNat = (s.reg8 .d).toNat * 256 + (s.reg8 .e).toNat ∧
    (s.pair .hl).toNat = (s.reg8 .h).toNat * 256 + (s.reg8 .l).toNat ∧
    (∀ w, let t := s.setPair16 .bc w
      (t.reg8 .b).toNat = w.toNat / 256 ∧ (t.reg8 .c).toNat = w.toNat % 256 ∧ t.pair .bc = w) ∧
    (∀ w, let t := s.setPair16 .de w
      (t.reg8 .d).toNat = w.toNat / 256 ∧ (t.reg8 .e).toNat = w.toNat % 256 ∧ t.pair .de = w) ∧
    (∀ w, let t := s.setPair16 .hl w
      (t.reg8 .h).toNat = w.toNat / 256 ∧ (t.reg8 .l).toNat = w.toNat % 256 ∧ t.pair .hl = w)

/-- Each flag is wired to its bit of F, writing a flag updates exactly that bit, and reading it reads that bit (`10_state.md`
R27); an LR35902 state reads F with a zero low nibble, whatever is stored and whatever is written, and has neither S nor
P/V (R26). -/
def Obligations.FlagsAreBitsOfF : Prop :=
  [Flag.s, .z, .h, .pv, .n, .c].map (flagBit .z80) = [some 7, some 6, some 4, some 2, some 1, some 0] ∧
  [Flag.z, .n, .h, .c].map (flagBit .lr35902) = [some 7, some 6, some 5, some 4] ∧
  (∀ (s : State) (fl : Flag) (k : Nat), flagBit s.config.variant fl = some k →
    s.flag fl = getBit s.regF k ∧
    (∀ (b : Bool) (j : Nat), getBit (s.setFlag fl b).regF j = if j = k then b else getBit s.regF j)) ∧
  (∀ s : State, s.config.variant = .lr35902 →
    s.regF = s.cpu.f &&& 0xF0 ∧ s.regF &&& 0x0F = 0 ∧ (s.pair .af).toNat % 16 = 0 ∧
    (∀ f, (s.setF f).regF = f &&& 0xF0) ∧
    flagBit s.config.variant .s = none ∧ flagBit s.config.variant .pv = none)

/-- The bit indices of R27 and the meaning of the conditions (`43_control.md` R220). The conditions are general knowledge
G15 and the spec's own choice D31 (log entry 27). -/
def Obligations.ConditionsReadTheirFlag : Prop :=
  ∀ s : State,
    (s.config.variant = .z80 →
      s.cond .nz = !getBit s.regF 6 ∧ s.cond .z = getBit s.regF 6 ∧ s.cond .nc = !getBit s.regF 0 ∧
      s.cond .c = getBit s.regF 0 ∧ s.cond .po = !getBit s.regF 2 ∧ s.cond .pe = getBit s.regF 2 ∧
      s.cond .p = !getBit s.regF 7 ∧ s.cond .m = getBit s.regF 7) ∧
    (s.config.variant = .lr35902 →
      s.cond .nz = !getBit s.regF 7 ∧ s.cond .z = getBit s.regF 7 ∧ s.cond .nc = !getBit s.regF 4 ∧
      s.cond .c = getBit s.regF 4)

/-! ## The bus -/

/-- A byte read and a byte write go to the one registrant whose range holds the address (`20_memory.md` R62, R64, R65) and
to nothing else: no access touches the CPU or the parameters. RAM keeps what was written there and nowhere else (R69), a ROM
takes no write (R79, the spec's own choice D15, log entry 19), an unowned address reads 0xFF and drops writes (R63, D14), and
a platform-supplied peripheral answers an uninterpreted function of its own accesses so far (R68; the form is the model's
choice, log entry 11). -/
def Obligations.ByteAccessesReachTheOwner : Prop :=
  ∀ (s : State) (a : Word) (v : Byte),
    (disjointRanges s.config.peripherals → ∀ x ∈ s.config.peripherals, x.first ≤ a → a ≤ x.last →
      ownerOf s.config a = some x.device) ∧
    ((∀ x ∈ s.config.peripherals, ¬ (x.first ≤ a ∧ a ≤ x.last)) → ownerOf s.config a = none) ∧
    (s.write8 a v = { s with bus := (s.write8 a v).bus } ∧ s.read8 a = (s.peek8 a, s.afterRead a) ∧
      s.afterRead a = { s with bus := (s.afterRead a).bus }) ∧
    (ownerOf s.config a = none → s.peek8 a = 0xFF ∧ s.write8 a v = s ∧ s.afterRead a = s) ∧
    (ownerOf s.config a = some .ram → (s.write8 a v).peek8 a = v ∧ s.afterRead a = s ∧
      (∀ x, x ≠ a → (s.write8 a v).peek8 x = s.peek8 x) ∧
      (s.write8 a v).bus.apu = s.bus.apu ∧ (s.write8 a v).bus.devLog = s.bus.devLog) ∧
    (ownerOf s.config a = some .rom → s.peek8 a = s.bus.mem.read a.toNat ∧ s.write8 a v = s ∧ s.afterRead a = s) ∧
    (ownerOf s.config a = some .apu → s.peek8 a = s.bus.apu.read a ∧ s.afterRead a = s ∧
      (s.write8 a v).bus.apu = s.bus.apu.write a v ∧ (s.write8 a v).bus.mem = s.bus.mem ∧
      (s.write8 a v).bus.devLog = s.bus.devLog) ∧
    (∀ id, ownerOf s.config a = some (.platform id) →
      s.peek8 a = Config.platformByte id (s.bus.history id) a ∧
      (s.write8 a v).bus.history id = { device := id, addr := a, written := some v } :: s.bus.history id ∧
      (s.afterRead a).bus.history id = { device := id, addr := a, written := none } :: s.bus.history id ∧
      (∀ other, other ≠ id → (s.write8 a v).bus.history other = s.bus.history other ∧
        (s.afterRead a).bus.history other = s.bus.history other) ∧
      (s.write8 a v).bus.mem = s.bus.mem ∧ (s.write8 a v).bus.apu = s.bus.apu ∧
      (s.afterRead a).bus.mem = s.bus.mem ∧ (s.afterRead a).bus.apu = s.bus.apu)

/-- A word read takes the low byte first, then the byte at the next address modulo 2^16, and gives `high * 256 + low`; a
word write writes them in the same order (`20_memory.md` R66, R67); and a word written to RAM reads back, low byte at the
lower address, every other byte as before (R70). -/
def Obligations.WordsAreTwoBytesLowByteFirst : Prop :=
  ∀ (s : State) (a w next : Word), next.toNat = (a.toNat + 1) % 65536 →
    (s.read16 a).1.toNat = ((s.read8 a).2.read8 next).1.toNat * 256 + (s.read8 a).1.toNat ∧
    (s.read16 a).2 = ((s.read8 a).2.read8 next).2 ∧
    (∀ lo hi : Byte, w.toNat = hi.toNat * 256 + lo.toNat → s.write16 a w = (s.write8 a lo).write8 next hi) ∧
    (ownerOf s.config a = some .ram → ownerOf s.config next = some .ram →
      ((s.write16 a w).read16 a).1 = w ∧
      ((s.write16 a w).peek8 a).toNat = w.toNat % 256 ∧ ((s.write16 a w).peek8 next).toNat = w.toNat / 256 ∧
      (∀ x, x ≠ a → x ≠ next → (s.write16 a w).peek8 x = s.peek8 x))

/-- `register` fails exactly if an existing range overlaps (`20_memory.md` R61), so bring-up succeeds exactly on lists
whose ranges are disjoint, and then registers all of them (R62). -/
def Obligations.RegistrationFailsExactlyOnOverlap : Prop :=
  (∀ (ps : List Registration) (x : Registration),
    (∃ y ∈ ps, y.first ≤ x.last ∧ x.first ≤ y.last) ↔ ∃ r, register ps x = .error r) ∧
  (∀ ps qs : List Registration, registerAll [] ps = .ok qs ↔ qs = ps ∧ disjointRanges ps)

/-! ## 8-bit loads -/

/-- `LD r,r'` and `LD r,n` (`40_load8.md` R130, R131). That no flag changes (R151) is general knowledge G6 and the spec's
own choice D16 (log entry 27). -/
def Obligations.LoadRegister : Prop :=
  (∀ p ∈ copyRows, ∀ s : State, ∃ t, exec p.1 s = .next t ∧
    t.reg8 p.2.1 = s.reg8 p.2.2 ∧ Kept [p.2.1] [] [] [] s t ∧ Plain s t) ∧
  (∀ p ∈ immRows, ∀ (n : Byte) (s : State), ∃ t, exec (p.1 n) s = .next t ∧
    t.reg8 p.2 = n ∧ Kept [p.2] [] [] [] s t ∧ Plain s t)

/-- `LD r,(HL)`, `LD A,(BC)`, `LD A,(DE)` and both encodings of `LD A,(nn)` (`40_load8.md` R132, R135, R136, R140, R142):
the address is read before H or L is written. That no flag changes (R151) is general knowledge G6 and the spec's own
choice D16; the Z80 encoding of LD A,(nn) is in the set by G5 (log entry 27). -/
def Obligations.LoadRegisterFromMemory : Prop :=
  ∀ (nn : Word) (s : State),
    (∀ p ∈ loadHlRows, ∃ t, exec p.1 s = .next t ∧
      t.reg8 p.2 = s.peek8 (s.pair .hl) ∧ t.bus = (s.afterRead (s.pair .hl)).bus ∧
      Kept [p.2] [] [s.pair .hl] [] s t ∧ Plain s t) ∧
    (∀ p ∈ [(Instr.ldABcInd, s.pair .bc), (.ldADeInd, s.pair .de), (.ldANnIndZ80 nn, nn), (.ldANnIndLr nn, nn)],
      ∃ t, exec p.1 s = .next t ∧ t.reg8 .a = s.peek8 p.2 ∧ t.bus = (s.afterRead p.2).bus ∧
        Kept [.a] [] [p.2] [] s t ∧ Plain s t)

/-- `LD (HL),r`, `LD (HL),n`, `LD (BC),A`, `LD (DE),A` and both encodings of `LD (nn),A` (`40_load8.md` R133, R134, R137,
R138, R139, R141); an unowned address drops the write (`20_memory.md` R63, D14) and a ROM takes none (R79, the spec's own
choice D15, log entry 19). That no flag changes (R151) is general knowledge G6 and the spec's own choice D16; the Z80
encoding of LD (nn),A is in the set by G5 (log entry 27). -/
def Obligations.StoreRegisterToMemory : Prop :=
  ∀ (n : Byte) (nn : Word) (s : State),
    (∀ p ∈ storeHlRows, ∃ t, exec p.1 s = .next t ∧
      StoredByte (s.pair .hl) (s.reg8 p.2) s t ∧ Kept [] [] [s.pair .hl] [s.pair .hl] s t ∧ Plain s t) ∧
    (∃ t, exec (.ldHlIndN n) s = .next t ∧
      StoredByte (s.pair .hl) n s t ∧ Kept [] [] [s.pair .hl] [s.pair .hl] s t ∧ Plain s t) ∧
    (∀ p ∈ [(Instr.ldBcIndA, s.pair .bc), (.ldDeIndA, s.pair .de), (.ldNnIndAZ80 nn, nn), (.ldNnIndALr nn, nn)],
      ∃ t, exec p.1 s = .next t ∧ StoredByte p.2 (s.reg8 .a) s t ∧ Kept [] [] [p.2] [p.2] s t ∧ Plain s t)

/-- The post-increment and post-decrement loads (`40_load8.md` R143 to R146, R151): encoding, variant, the access at the
old HL, then HL stepped modulo 2^16; no flag changes (the spec's own choice D16, log entry 27); an unowned address drops
the store (D14) and a ROM takes none (D15, log entry 19). That no flag changes (R151) is general knowledge G6 too. -/
def Obligations.LoadsThatStepHl : Prop :=
  (encode .ldHlIncA = [0x22] ∧ encode .ldAHlInc = [0x2A] ∧ encode .ldHlDecA = [0x32] ∧ encode .ldAHlDec = [0x3A]) ∧
  (∀ i ∈ [Instr.ldHlIncA, .ldAHlInc, .ldHlDecA, .ldAHlDec], i.runsOn .lr35902 = true ∧ i.runsOn .z80 = false) ∧
  (∀ s : State, ∀ p ∈ [(Instr.ldHlIncA, 1), (.ldHlDecA, 65535)], ∃ t, exec p.1 s = .next t ∧
    StoredByte (s.pair .hl) (s.reg8 .a) s t ∧ (t.pair .hl).toNat = ((s.pair .hl).toNat + p.2) % 65536 ∧
    Kept [.h, .l] [] [s.pair .hl] [s.pair .hl] s t ∧ Plain s t) ∧
  (∀ s : State, ∀ p ∈ [(Instr.ldAHlInc, 1), (.ldAHlDec, 65535)], ∃ t, exec p.1 s = .next t ∧
    t.reg8 .a = s.peek8 (s.pair .hl) ∧ t.bus = (s.afterRead (s.pair .hl)).bus ∧
    (t.pair .hl).toNat = ((s.pair .hl).toNat + p.2) % 65536 ∧
    Kept [.a, .h, .l] [] [s.pair .hl] [] s t ∧ Plain s t)

/-- `LD (C),A`, `LD A,(C)`, `LDH (n),A` and `LDH A,(n)` (`40_load8.md` R147 to R150, R153): C is never sign-extended (the
spec's own choice D36), the immediate as `LDH_OFFSET` says (D4); an unowned address drops a store (`20_memory.md` R63,
D14) and a ROM takes none (R79, the spec's own choice D15, log entry 19). That no flag changes (R151) is general
knowledge G6 and the spec's own choice D16 (log entry 27); LDH_OFFSET is log entry 3. -/
def Obligations.HighPageLoads : Prop :=
  ∀ (n : Byte) (s : State),
    (∀ p ∈ [(Instr.ldCIndA, BitVec.ofNat 16 (0xFF00 + (s.reg8 .c).toNat)),
        (.ldhNIndA n, ldhTarget s.config.ldhOffset n)],
      ∃ t, exec p.1 s = .next t ∧ StoredByte p.2 (s.reg8 .a) s t ∧ Kept [] [] [p.2] [p.2] s t ∧ Plain s t) ∧
    (∀ p ∈ [(Instr.ldACInd, BitVec.ofNat 16 (0xFF00 + (s.reg8 .c).toNat)),
        (.ldhANInd n, ldhTarget s.config.ldhOffset n)],
      ∃ t, exec p.1 s = .next t ∧ t.reg8 .a = s.peek8 p.2 ∧ t.bus = (s.afterRead p.2).bus ∧
        Kept [.a] [] [p.2] [] s t ∧ Plain s t)

/-! ## 16-bit loads and the block move -/

/-- `LD rr,nn` and `LD SP,HL` (`41_load16_block.md` R170, R171). That no flag changes (R174) is general knowledge G6 and
the spec's own choice D16 (log entry 27). -/
def Obligations.LoadPair : Prop :=
  (∀ p ∈ pairImmRows, ∀ (nn : Word) (s : State), ∃ t, exec (p.1 nn) s = .next t ∧
    t.pair16 p.2 = nn ∧ (p.2 ≠ .sp → t.cpu.sp = s.cpu.sp) ∧ Kept p.2.parts [] [] [] s t ∧ PlainButSp s t) ∧
  (∀ s : State, ∃ t, exec .ldSpHl s = .next t ∧
    t.cpu.sp = s.pair .hl ∧ Kept [] [] [] [] s t ∧ PlainButSp s t)

/-- `LD (nn),HL` and `LD HL,(nn)` (`41_load16_block.md` R172, R173, in the set by general knowledge G5): L at `nn`, H at
`nn + 1` modulo 2^16. That no flag changes (R174) is general knowledge G6 and the spec's own choice D16 (log entry 27, as
G5). -/
def Obligations.WordLoadsThroughAbsoluteAddress : Prop :=
  ∀ (nn : Word) (s : State),
    (∃ t, exec (.ldNnIndHl nn) s = .next t ∧
      t.bus = ((s.write8 nn (s.reg8 .l)).write8 (nn + 1) (s.reg8 .h)).bus ∧
      Kept [] [] [nn, nn + 1] [nn, nn + 1] s t ∧ Plain s t) ∧
    (∃ t, exec (.ldHlNnInd nn) s = .next t ∧
      t.reg8 .l = s.peek8 nn ∧ t.reg8 .h = (s.afterRead nn).peek8 (nn + 1) ∧
      t.bus = ((s.afterRead nn).afterRead (nn + 1)).bus ∧
      Kept [.h, .l] [] [nn, nn + 1] [] s t ∧ Plain s t)

/-- `ADD SP,n` (`42_arith.md` R200): its byte, LR35902 only (on the Z80 the byte is `RET PE`, by general knowledge G1 and G15
and the spec's own choices D2 and D31, log entry 27), SP plus the signed displacement modulo 2^16, Z = N = 0, H and C the
carries of the unsigned low-byte addition. -/
def Obligations.AddImmediateToSp : Prop :=
  ∀ (e : Byte) (s : State),
    (encode (.addSpN e) = [0xE8, e] ∧ (Instr.addSpN e).runsOn .lr35902 = true ∧ (Instr.addSpN e).runsOn .z80 = false ∧
      decode .z80 [0xE8, e] = .ok (.retPe, [e])) ∧
    ∃ t, exec (.addSpN e) s = .next t ∧
      t.cpu.sp.toNat = (s.cpu.sp.toNat + displacement e) % 65536 ∧ SpAddFlags s.cpu.sp e t ∧
      Kept [] [.z, .n, .h, .c] [] [] s t ∧ PlainButSp s t

/-- `LD HL,SP+n` (`41_load16_block.md` R175, R176, its byte by general knowledge G4): the same sum and flags into HL; SP
keeps its value. G4 stands in log entry 27. -/
def Obligations.LoadHlFromSpPlusImmediate : Prop :=
  ∀ (e : Byte) (s : State), ∃ t, exec (.ldHlSpN e) s = .next t ∧
    (t.pair .hl).toNat = (s.cpu.sp.toNat + displacement e) % 65536 ∧ SpAddFlags s.cpu.sp e t ∧
    Kept [.h, .l] [.z, .n, .h, .c] [] [] s t ∧ Plain s t

/-- `LDI` (`41_load16_block.md` R177; P/V after the decrement by general knowledge G11): one byte from (HL) to (DE), HL
and DE up, BC down, H = N = 0, P/V says that BC is not 0; S, Z, C and bits 5 and 3 of F keep. G11 stands in log entry 27.
-/
def Obligations.BlockMoveStep : Prop :=
  ∀ s : State, ∃ t, exec .ldi s = .next t ∧
    t.bus = ((s.afterRead (s.pair .hl)).write8 (s.pair .de) (s.peek8 (s.pair .hl))).bus ∧
    (t.pair .hl).toNat = ((s.pair .hl).toNat + 1) % 65536 ∧
    (t.pair .de).toNat = ((s.pair .de).toNat + 1) % 65536 ∧
    (t.pair .bc).toNat = ((s.pair .bc).toNat + 65535) % 65536 ∧
    t.flag .h = false ∧ t.flag .n = false ∧
    (s.config.variant = .z80 → t.flag .pv = decide ((s.pair .bc).toNat ≠ 1)) ∧
    Kept [.b, .c, .d, .e, .h, .l] [.h, .n, .pv] [s.pair .hl, s.pair .de] [s.pair .de] s t ∧ Plain s t

/-! ## Arithmetic -/

/-- `INC r` (`42_arith.md` R190, R205; H and N by general knowledge G10). G10 stands in log entry 27. -/
def Obligations.IncrementRegister : Prop :=
  ∀ p ∈ incRows, ∀ s : State, ∃ t, exec p.1 s = .next t ∧
    (t.reg8 p.2).toNat = ((s.reg8 p.2).toNat + 1) % 256 ∧ IncFlags (s.reg8 p.2) t ∧
    Kept [p.2] [.z, .n, .h, .s, .pv] [] [] s t ∧ Plain s t

/-- `DEC r` (`42_arith.md` R192, R205): Z, N = 1, H on a borrow from bit 4, C untouched, on the Z80 S and P/V. -/
def Obligations.DecrementRegister : Prop :=
  ∀ p ∈ decRows, ∀ s : State, ∃ t, exec p.1 s = .next t ∧
    (t.reg8 p.2).toNat = ((s.reg8 p.2).toNat + 255) % 256 ∧ DecFlags (s.reg8 p.2) t ∧
    Kept [p.2] [.z, .n, .h, .s, .pv] [] [] s t ∧ Plain s t

/-- `INC (HL)` and `DEC (HL)` (`42_arith.md` R191, R193): the byte read, stepped and written back, with the flags of the
register forms: that the memory forms have them is the spec's own choice D16, and H and N of `INC` are general knowledge G10
(log entry 27). -/
def Obligations.StepMemoryAtHl : Prop :=
  ∀ s : State,
    let a := s.pair .hl
    let v := s.peek8 a
    (∃ t r, exec .incHlInd s = .next t ∧ r.toNat = (v.toNat + 1) % 256 ∧ t.bus = ((s.afterRead a).write8 a r).bus ∧
      IncFlags v t ∧ Kept [] [.z, .n, .h, .s, .pv] [a] [a] s t ∧ Plain s t) ∧
    (∃ t r, exec .decHlInd s = .next t ∧ r.toNat = (v.toNat + 255) % 256 ∧ t.bus = ((s.afterRead a).write8 a r).bus ∧
      DecFlags v t ∧ Kept [] [.z, .n, .h, .s, .pv] [a] [a] s t ∧ Plain s t)

/-- `INC rr` and `DEC rr` wrap modulo 2^16 and write no flag (`42_arith.md` R194, R195). That no flag changes is general
knowledge G6 and the spec's own choice D16 (log entry 27). -/
def Obligations.StepPair : Prop :=
  ∀ q ∈ [(incPairRows, 1), (decPairRows, 65535)], ∀ p ∈ q.1, ∀ s : State, ∃ t, exec p.1 s = .next t ∧
    (t.pair16 p.2).toNat = ((s.pair16 p.2).toNat + q.2) % 65536 ∧ (p.2 ≠ .sp → t.cpu.sp = s.cpu.sp) ∧
    Kept p.2.parts [] [] [] s t ∧ PlainButSp s t

/-- `ADD A,r`, `ADD A,n` and `ADD A,(HL)` (`42_arith.md` R196 to R198, R204; the flags are the spec's own choice D16).
The flags are general knowledge G7 (log entry 27). -/
def Obligations.AddToAccumulator : Prop :=
  (∀ p ∈ addRows, ∀ s : State, ∃ t, exec p.1 s = .next t ∧
    (t.reg8 .a).toNat = ((s.reg8 .a).toNat + (s.reg8 p.2).toNat) % 256 ∧ AddFlags (s.reg8 .a) (s.reg8 p.2) t ∧
    Kept [.a] [.z, .n, .h, .c, .s, .pv] [] [] s t ∧ Plain s t) ∧
  (∀ (n : Byte) (s : State), ∃ t, exec (.addAN n) s = .next t ∧
    (t.reg8 .a).toNat = ((s.reg8 .a).toNat + n.toNat) % 256 ∧ AddFlags (s.reg8 .a) n t ∧
    Kept [.a] [.z, .n, .h, .c, .s, .pv] [] [] s t ∧ Plain s t) ∧
  (∀ s : State, ∃ t, exec .addAHlInd s = .next t ∧
    (t.reg8 .a).toNat = ((s.reg8 .a).toNat + (s.peek8 (s.pair .hl)).toNat) % 256 ∧
    AddFlags (s.reg8 .a) (s.peek8 (s.pair .hl)) t ∧ t.bus = (s.afterRead (s.pair .hl)).bus ∧
    Kept [.a] [.z, .n, .h, .c, .s, .pv] [s.pair .hl] [] s t ∧ Plain s t)

/-- `ADD HL,rr` (`42_arith.md` R199; the flags are the spec's own choice D16): N = 0, H from bit 11, C from bit 15, the
other bits of F kept. The flags are general knowledge G8 (log entry 27). -/
def Obligations.AddPairToHl : Prop :=
  ∀ p ∈ addHlRows, ∀ s : State, ∃ t, exec p.1 s = .next t ∧
    (t.pair .hl).toNat = ((s.pair .hl).toNat + (s.pair16 p.2).toNat) % 65536 ∧
    t.flag .n = false ∧
    t.flag .h = decide (0x0FFF < (s.pair .hl).toNat % 0x1000 + (s.pair16 p.2).toNat % 0x1000) ∧
    t.flag .c = decide (0xFFFF < (s.pair .hl).toNat + (s.pair16 p.2).toNat) ∧
    Kept [.h, .l] [.n, .h, .c] [] [] s t ∧ Plain s t

/-- `SWAP r` and `SWAP (HL)` (`42_arith.md` R201, R202; effect and flags are the spec's own choice D16). The flags are
general knowledge G9 (log entry 27). -/
def Obligations.SwapNibbles : Prop :=
  (∀ p ∈ swapRows, ∀ s : State, ∃ t, exec p.1 s = .next t ∧
    (t.reg8 p.2).toNat = (s.reg8 p.2).toNat % 16 * 16 + (s.reg8 p.2).toNat / 16 ∧ SwapFlags (t.reg8 p.2) t ∧
    Kept [p.2] [.z, .n, .h, .c] [] [] s t ∧ Plain s t) ∧
  (∀ s : State,
    let a := s.pair .hl
    let v := s.peek8 a
    ∃ t r, exec .swapHlInd s = .next t ∧ r.toNat = v.toNat % 16 * 16 + v.toNat / 16 ∧
      t.bus = ((s.afterRead a).write8 a r).bus ∧ SwapFlags r t ∧
      Kept [] [.z, .n, .h, .c] [a] [a] s t ∧ Plain s t)

/-! ## Control transfer -/

/-- `JP nn`, `JP cc,nn` and `JP (HL)` (`43_control.md` R221 to R223, R239): PC takes the target, or a transfer not taken
changes nothing. That no flag changes (R239) is general knowledge G6 and the spec's own choice D16; the conditions (R220)
are G15 and D31, JP (HL) is G13 and D35 (log entry 27). -/
def Obligations.Jumps : Prop :=
  (∀ (nn : Word) (s : State), ∃ t, exec (.jp nn) s = .next t ∧
    t.cpu.pc = nn ∧ t.cpu.sp = s.cpu.sp ∧ SameInterrupts s t ∧ Kept [] [] [] [] s t) ∧
  (∀ s : State, ∃ t, exec .jpHlInd s = .next t ∧
    t.cpu.pc = s.pair .hl ∧ t.cpu.sp = s.cpu.sp ∧ SameInterrupts s t ∧ Kept [] [] [] [] s t) ∧
  (∀ p ∈ jumpRows, ∀ (nn : Word) (s : State), ∃ t, exec (p.1 nn) s = .next t ∧
    t.cpu.pc = (if s.cond p.2 then nn else s.cpu.pc) ∧ t.cpu.sp = s.cpu.sp ∧ SameInterrupts s t ∧
    Kept [] [] [] [] s t)

/-- `JR e` and `JR cc,e` (`43_control.md` R224, R225). That no flag changes (R239) is general knowledge G6 and the spec's
own choice D16; the conditions (R220) are G15 and D31, the base of the displacement is G14 (log entry 27). -/
def Obligations.RelativeJumps : Prop :=
  (∀ (e : Byte) (s : State), ∃ t, exec (.jr e) s = .next t ∧
    t.cpu.pc.toNat = (s.cpu.pc.toNat + displacement e) % 65536 ∧ t.cpu.sp = s.cpu.sp ∧ SameInterrupts s t ∧
    Kept [] [] [] [] s t) ∧
  (∀ p ∈ relativeRows, ∀ (e : Byte) (s : State), ∃ t, exec (p.1 e) s = .next t ∧
    t.cpu.pc.toNat = (if s.cond p.2 then (s.cpu.pc.toNat + displacement e) % 65536 else s.cpu.pc.toNat) ∧
    t.cpu.sp = s.cpu.sp ∧ SameInterrupts s t ∧ Kept [] [] [] [] s t)

/-- `CALL nn` and `CALL cc,nn` (`43_control.md` R226, R227, R230): PC goes to SP - 2, low byte first, and SP goes down by
2; a call not taken changes nothing. That no flag changes (R239) is general knowledge G6 and the spec's own choice D16;
the conditions (R220) are G15 and D31 (log entry 27); the stack image is G16 and the order of its accesses D11 (log
entries 26 and 27). -/
def Obligations.Calls : Prop :=
  (∀ (nn : Word) (s : State), ∃ t, exec (.call nn) s = .next t ∧
    t.cpu.pc = nn ∧ t.cpu.sp = s.cpu.sp - 2 ∧
    t.bus = ((s.write8 (s.cpu.sp - 2) (loByte s.cpu.pc)).write8 (s.cpu.sp - 1) (hiByte s.cpu.pc)).bus ∧
    SameInterrupts s t ∧ Kept [] [] [s.cpu.sp - 2, s.cpu.sp - 1] [s.cpu.sp - 2, s.cpu.sp - 1] s t) ∧
  (∀ p ∈ callRows, ∀ (nn : Word) (s : State),
    (s.cond p.2 = true → ∃ t, exec (p.1 nn) s = .next t ∧ exec (.call nn) s = .next t) ∧
    (s.cond p.2 = false → exec (p.1 nn) s = .next s))

/-- `RET`, `RET cc` and `RETI` (`43_control.md` R228 to R230, R236): PC is popped, SP goes up by 2, `RETI` sets IFF1 and
IFF2 at once; a return not taken changes nothing. That no flag changes (R239) is general knowledge G6 and the spec's own
choice D16; the conditions (R220) are G15 and D31, RETI is G12 and D9 (log entry 27); the stack image is G16 and the
order of its accesses D11 (log entries 26 and 27). -/
def Obligations.Returns : Prop :=
  (∀ s : State, ∃ t, exec .ret s = .next t ∧
    t.cpu.pc.toNat = ((s.afterRead s.cpu.sp).peek8 (s.cpu.sp + 1)).toNat * 256 + (s.peek8 s.cpu.sp).toNat ∧
    t.cpu.sp = s.cpu.sp + 2 ∧ t.bus = ((s.afterRead s.cpu.sp).afterRead (s.cpu.sp + 1)).bus ∧
    SameInterrupts s t ∧ Kept [] [] [s.cpu.sp, s.cpu.sp + 1] [] s t) ∧
  (∀ s : State, ∃ t u, exec .reti s = .next t ∧ exec .ret s = .next u ∧
    t.cpu = { u.cpu with iff1 := true, iff2 := true } ∧ t.bus = u.bus ∧
    Kept [] [] [s.cpu.sp, s.cpu.sp + 1] [] s t) ∧
  (∀ p ∈ returnRows, ∀ s : State,
    (s.cond p.2 = true → ∃ t, exec p.1 s = .next t ∧ exec .ret s = .next t) ∧
    (s.cond p.2 = false → exec p.1 s = .next s))

/-- A call and the return that meets its stack come back to PCnext with SP as before, when the two stack bytes are RAM
(`43_control.md` R226, R228, R230). That the stack bytes are SP - 2 and SP - 1 and that the pop meets them is general
knowledge G16 and the spec's own choice D11 (R230, `20_memory.md` R80, log entries 26 and 27); that F keeps (R239) is G6
and D16. -/
def Obligations.ReturnUndoesCall : Prop :=
  ∀ (nn : Word) (s t u : State), ownerOf s.config (s.cpu.sp - 2) = some .ram →
    ownerOf s.config (s.cpu.sp - 1) = some .ram → exec (.call nn) s = .next t → exec .ret t = .next u →
    u.cpu = s.cpu

/-- `NOP`, `DI` and `EI` (`43_control.md` R235, R237, R238): nothing; IFF1 and IFF2 cleared at once; the flag set and
IFF1 and IFF2 as they were. That none of the three writes a flag is general knowledge G6 and the spec's own choice D16
(`10_state.md` R28); that DI keeps ei_pending is the literal reading D10 (log entry 27). -/
def Obligations.SystemInstructions : Prop :=
  ∀ s : State,
    exec .nop s = .next s ∧
    (∃ t, exec .di s = .next t ∧ t.cpu = { s.cpu with iff1 := false, iff2 := false } ∧ t.bus = s.bus ∧
      Kept [] [] [] [] s t) ∧
    (∃ t, exec .ei s = .next t ∧ t.cpu = { s.cpu with eiPending := true } ∧ t.bus = s.bus ∧ Kept [] [] [] [] s t)

/-! ## The host -/

/-- The host's turn (`70_reset_and_hazards.md` R325; the schedule as a list is the model's own, log entry 12): `set_pc`,
`set_sp` and `set_a` write that register (`10_state.md` R37), `read8`, `read16`, `write8` and `write16` make their byte
accesses on the bus, low byte first (`00_scope.md` R8; `20_memory.md` R66, R67), and nothing else changes. That the host
acts between steps only is the spec's own choice D28 (log entry 24). -/
def Obligations.HostMutatorsWriteOneRegister : Prop :=
  ∀ (s : State) (rest : List Turn) (a w : Word) (v : Byte), s.status = .running → s.callReturn = none →
    (s.schedule = .host (.setPc w) :: rest →
      step s = .next { s with cpu := { s.cpu with pc := w }, schedule := rest }) ∧
    (s.schedule = .host (.setSp w) :: rest →
      step s = .next { s with cpu := { s.cpu with sp := w }, schedule := rest }) ∧
    (s.schedule = .host (.setA v) :: rest →
      step s = .next { s with cpu := { s.cpu with a := v }, schedule := rest }) ∧
    (s.schedule = .host (.read8 a) :: rest →
      step s = .next { s with bus := (s.afterRead a).bus, schedule := rest }) ∧
    (s.schedule = .host (.read16 a) :: rest →
      step s = .next { s with bus := ((s.afterRead a).afterRead (a + 1)).bus, schedule := rest }) ∧
    (s.schedule = .host (.write8 a v) :: rest →
      step s = .next { s with bus := (s.write8 a v).bus, schedule := rest }) ∧
    (s.schedule = .host (.write16 a w) :: rest → ∀ lo hi : Byte, w.toNat = hi.toNat * 256 + lo.toNat →
      step s = .next { s with bus := ((s.write8 a lo).write8 (a + 1) hi).bus, schedule := rest })

/-- `call(addr)` (`60_exceptions.md` R267, the spec's own choice D27): it pushes PC as it stands, sets PC, and then each
step is a CPU step until PC is the value kept, where control returns to the host. The stack image of the push is general
knowledge G16 and the spec's own choice D11 (log entries 26 and 27). -/
def Obligations.HostCallRunsUntilPcReturns : Prop :=
  (∀ (s : State) (rest : List Turn) (addr : Word), s.status = .running → s.callReturn = none →
    s.schedule = .host (.call addr) :: rest →
    ∃ t, step s = .next t ∧ t.cpu = { s.cpu with pc := addr, sp := s.cpu.sp - 2 } ∧
      t.bus = (s.write16 (s.cpu.sp - 2) s.cpu.pc).bus ∧ t.callReturn = some s.cpu.pc ∧ t.schedule = rest) ∧
  (∀ (s : State) (pc0 : Word), s.status = .running → s.callReturn = some pc0 →
    (s.cpu.pc = pc0 → step s = .next { s with callReturn := none }) ∧
    (s.cpu.pc ≠ pc0 → step s = cpuStep s ∧
      ∀ t, step s = .next t → t.callReturn = some pc0 ∧ t.schedule = s.schedule))

/-- The host's tick advances the APU and changes no CPU register and no byte a program can read
(`70_reset_and_hazards.md` R325, `60_exceptions.md` R283). A tick without an APU is the model's choice (log entry 18). -/
def Obligations.TickChangesApuOnly : Prop :=
  ∀ (s : State) (rest : List Turn), s.status = .running → s.callReturn = none →
    s.schedule = .host .clock256hz :: rest →
    ∃ t, step s = .next t ∧ t.cpu = s.cpu ∧ t.bus.mem = s.bus.mem ∧ t.bus.devLog = s.bus.devLog ∧
      t.schedule = rest ∧ (∀ a, t.peek8 a = s.peek8 a) ∧
      (apuPresent s.config = true → t.bus.apu = s.bus.apu.clock256hz) ∧
      (apuPresent s.config = false → t.bus.apu = s.bus.apu)

/-! ## The APU -/

/-- The window reads the last byte written and a read changes nothing (`60_exceptions.md` R288), and a write to 0xFF15 or
0xFF1A..0xFF3F has no other effect (R289). -/
def Obligations.WindowReadsShadowBytes : Prop :=
  ∀ (u : Apu) (a : Word) (v : Byte),
    (u.write a v).read a = v ∧ (∀ x, x ≠ a → (u.write a v).read x = u.read x) ∧
    (∀ s : State, ownerOf s.config a = some .apu → s.read8 a = (s.bus.apu.read a, s)) ∧
    (a = 0xFF15 ∨ 0xFF1A ≤ a.toNat ∧ a.toNat ≤ 0xFF3F →
      ∃ m, u.write a v = { u with shadow := m })

/-- Writes to 0xFF10, 0xFF12 and 0xFF17 (`60_exceptions.md` R277, R279): the fields of the byte, and no other field; the whole
byte stays in the shadow. -/
def Obligations.SweepAndEnvelopeRegisterWrites : Prop :=
  ∀ (u : Apu) (v : Byte),
    (∃ t, u.write 0xFF10 v = t ∧ t.sweep.period.toNat = v.toNat / 16 % 8 ∧ t.sweep.negate = v.getLsbD 3 ∧
      t.sweep.shift.toNat = v.toNat % 8 ∧ t.read 0xFF10 = v ∧ t.pulse1 = u.pulse1 ∧ t.pulse2 = u.pulse2 ∧
      t.seqIndex = u.seqIndex) ∧
    (∀ p : Pulse, p.writeEnvelope v =
      { p with startingVolume := BitVec.ofNat 4 (v.toNat / 16), envelopeAddMode := v.getLsbD 3,
               envelopePeriod := BitVec.ofNat 3 (v.toNat % 8) }) ∧
    (∃ t, u.write 0xFF12 v = t ∧ t.pulse1 = u.pulse1.writeEnvelope v ∧ t.pulse2 = u.pulse2 ∧ t.sweep = u.sweep ∧
      t.seqIndex = u.seqIndex) ∧
    (∃ t, u.write 0xFF17 v = t ∧ t.pulse2 = u.pulse2.writeEnvelope v ∧ t.pulse1 = u.pulse1 ∧ t.sweep = u.sweep ∧
      t.seqIndex = u.seqIndex)

/-- Writes to 0xFF11 and 0xFF16 (`60_exceptions.md` R278; that they load the counter is the spec's own choice D20). The
load is general knowledge G24 (log entry 27). -/
def Obligations.LengthRegisterWrites : Prop :=
  ∀ (u : Apu) (v : Byte),
    let after (p : Pulse) : Pulse :=
      { p with duty := BitVec.ofNat 2 (v.toNat / 64), lengthLoad := BitVec.ofNat 6 (v.toNat % 64),
               lengthCounter := BitVec.ofNat 7 (64 - v.toNat % 64) }
    (∃ t, u.write 0xFF11 v = t ∧ t.pulse1 = after u.pulse1 ∧ t.pulse2 = u.pulse2 ∧ t.sweep = u.sweep ∧
      t.seqIndex = u.seqIndex) ∧
    (∃ t, u.write 0xFF16 v = t ∧ t.pulse2 = after u.pulse2 ∧ t.pulse1 = u.pulse1 ∧ t.sweep = u.sweep ∧
      t.seqIndex = u.seqIndex)

/-- The trigger (`60_exceptions.md` R282): enabled, the counter reloaded from 0 only, envelope counter and volume reloaded,
every other field kept. -/
def Obligations.TriggerReloads : Prop :=
  ∀ p : Pulse, p.trigger =
    { p with enabled := true, lengthCounter := BitVec.ofNat 7 (if p.lengthCounter.toNat = 0 then 64 else p.lengthCounter.toNat),
             envelopeCounter := p.envelopePeriod, volume := p.startingVolume }

/-- Writes to 0xFF13 and 0xFF18 (`60_exceptions.md` R280): the frequency is recomposed from the byte written and the current
shadow byte of the other frequency register, and no other field changes. -/
def Obligations.FrequencyLowRegisterWrites : Prop :=
  ∀ (u : Apu) (v : Byte),
    let low (p : Pulse) (hi : Byte) : Pulse := { p with frequency := BitVec.ofNat 11 (hi.toNat % 8 * 256 + v.toNat) }
    (∃ t, u.write 0xFF13 v = t ∧ t.pulse1 = low u.pulse1 (u.read 0xFF14) ∧ t.pulse2 = u.pulse2 ∧ t.sweep = u.sweep ∧
      t.seqIndex = u.seqIndex) ∧
    (∃ t, u.write 0xFF18 v = t ∧ t.pulse2 = low u.pulse2 (u.read 0xFF19) ∧ t.pulse1 = u.pulse1 ∧ t.sweep = u.sweep ∧
      t.seqIndex = u.seqIndex)

/-- Writes to 0xFF14 and 0xFF19 (`60_exceptions.md` R281; the order inside the write is the spec's own choice D26): the
frequency is recomposed with the byte's low 3 bits on top, bit 7 triggers every time it is written as 1, bit 6 is
`length_enable`. The choice D26 stands in log entry 27. -/
def Obligations.ControlRegisterWrites : Prop :=
  ∀ (u : Apu) (v : Byte),
    let control (p : Pulse) (lo : Byte) : Pulse :=
      let q : Pulse := { p with frequency := BitVec.ofNat 11 (v.toNat % 8 * 256 + lo.toNat) }
      { (if v.toNat ≥ 128 then q.trigger else q) with lengthEnable := decide (v.toNat / 64 % 2 = 1) }
    (∃ t, u.write 0xFF14 v = t ∧ t.pulse1 = control u.pulse1 (u.read 0xFF13) ∧ t.pulse2 = u.pulse2 ∧
      t.sweep = u.sweep ∧ t.seqIndex = u.seqIndex) ∧
    (∃ t, u.write 0xFF19 v = t ∧ t.pulse2 = control u.pulse2 (u.read 0xFF18) ∧ t.pulse1 = u.pulse1 ∧
      t.sweep = u.sweep ∧ t.seqIndex = u.seqIndex)

/-- Length tick (`60_exceptions.md` R284): an enabled counter above 0 goes down by one and disables the channel on
reaching 0; a counter at 0, or not enabled, does nothing. -/
def Obligations.LengthTickCountsDown : Prop :=
  ∀ p : Pulse,
    (p.lengthEnable = true → 0 < p.lengthCounter.toNat →
      p.lengthTick = { p with lengthCounter := BitVec.ofNat 7 (p.lengthCounter.toNat - 1),
                              enabled := p.enabled && decide (p.lengthCounter.toNat ≠ 1) }) ∧
    (p.lengthEnable = false ∨ p.lengthCounter.toNat = 0 → p.lengthTick = p)

/-- Sweep tick (`60_exceptions.md` R285, the spec's own choice D22): nothing if period or shift is 0; a new frequency
above 2047 disables the channel and is not stored; else it is stored and the check is made once more on it; with
`sweep_negate` the frequency never rises and the channel is never disabled. The choice D22 stands in log entry 27. -/
def Obligations.SweepTickMovesFrequency : Prop :=
  ∀ (w : Sweep) (p : Pulse),
    let f := p.frequency.toNat
    let moved (x : Nat) : Nat := if w.negate then x - x / 2 ^ w.shift.toNat else x + x / 2 ^ w.shift.toNat
    (w.period = 0 ∨ w.shift = 0 → w.tick p = p) ∧
    (w.period ≠ 0 → w.shift ≠ 0 → 2047 < moved f → w.tick p = { p with enabled := false }) ∧
    (w.period ≠ 0 → w.shift ≠ 0 → moved f ≤ 2047 →
      w.tick p = { p with frequency := BitVec.ofNat 11 (moved f),
                          enabled := p.enabled && decide (moved (moved f) ≤ 2047) }) ∧
    (w.negate = true → (w.tick p).enabled = p.enabled ∧ (w.tick p).frequency.toNat ≤ f)

/-- Envelope tick (`60_exceptions.md` R286, the spec's own choice D21): nothing if the period is 0; a counter above 1
goes down by one; else it is reloaded and the volume moves by one, clamped to 0..15. The moment of the step is general
knowledge G25 (log entry 27). -/
def Obligations.EnvelopeTickStepsVolume : Prop :=
  ∀ p : Pulse,
    (p.envelopePeriod = 0 → p.envelopeTick = p) ∧
    (p.envelopePeriod ≠ 0 → 1 < p.envelopeCounter.toNat →
      p.envelopeTick = { p with envelopeCounter := BitVec.ofNat 3 (p.envelopeCounter.toNat - 1) }) ∧
    (p.envelopePeriod ≠ 0 → p.envelopeCounter.toNat ≤ 1 →
      p.envelopeTick = { p with
        envelopeCounter := p.envelopePeriod
        volume := BitVec.ofNat 4
          (if p.envelopeAddMode then min 15 (p.volume.toNat + 1) else p.volume.toNat - 1) })

/-- The frame sequencer (`60_exceptions.md` R283; not gated by `enabled`, D23): every tick counts lengths, index 1 and 3
sweep, index 3 steps the envelopes, and the index goes round modulo 4. The choices D23 and D26 stand in log entry 27. -/
def Obligations.SequencerDerivesItsClocks : Prop :=
  ∀ u : Apu,
    let t := u.clock256hz
    t.seqIndex.toNat = (u.seqIndex.toNat + 1) % 4 ∧ t.shadow = u.shadow ∧ t.sweep = u.sweep ∧
    (u.seqIndex.toNat = 0 ∨ u.seqIndex.toNat = 2 → t.pulse1 = u.pulse1.lengthTick ∧ t.pulse2 = u.pulse2.lengthTick) ∧
    (u.seqIndex.toNat = 1 → t.pulse1 = u.sweep.tick u.pulse1.lengthTick ∧ t.pulse2 = u.pulse2.lengthTick) ∧
    (u.seqIndex.toNat = 3 →
      t.pulse1 = (u.sweep.tick u.pulse1.lengthTick).envelopeTick ∧ t.pulse2 = u.pulse2.lengthTick.envelopeTick)

/-- The raw outputs to the sink (`60_exceptions.md` R273): the volume of an enabled channel, 0 of a disabled one, the raw
frequency and the duty index; a disabled channel keeps its other parameters, so that a trigger resumes it. What the sink is
given depends on the raw outputs alone and lies in its ranges (`SINK_SCALE` is a parameter, D24; its form is the model's, log
entry 22). -/
def Obligations.OutputsFollowTheChannel : Prop :=
  ∀ p : Pulse,
    (p.enabled = true → p.outAmplitude = p.volume) ∧ (p.enabled = false → p.outAmplitude = 0) ∧
    p.outFrequency = p.frequency ∧ p.outWaveform = p.duty ∧
    p.trigger.outAmplitude = p.startingVolume ∧ p.trigger.outFrequency = p.frequency ∧ p.trigger.outWaveform = p.duty ∧
    0 ≤ p.sinkAmplitude ∧ p.sinkAmplitude ≤ 1 ∧ 0 < p.sinkFrequency ∧
    (∀ q : Pulse, q.outAmplitude = p.outAmplitude → q.sinkAmplitude = p.sinkAmplitude) ∧
    (∀ q : Pulse, q.outFrequency = p.outFrequency → q.sinkFrequency = p.sinkFrequency)
end

