-- ==== Sys2Proof/Laws/Memory.lean ====
section
/-! SUPPORT. Read after write, and the canonical form of byte storage. -/

namespace Sys2Proof.Machine

theorem Memory.read_insert (m : Memory) (a : Nat) (v : Byte) (x : Nat) :
    Memory.read (Memory.insert m a v) x = if x = a then v else Memory.read m x := by
  induction m with
  | nil => simp [Memory.insert, Memory.read]
  | cons p m ih =>
    obtain ⟨k, w⟩ := p
    unfold Memory.insert
    split
    · simp [Memory.read]
    · split
      · rename_i _ hk; subst hk; by_cases hx : x = a <;> simp [Memory.read, hx]
      · by_cases hx : x = k
        · subst hx; simp [Memory.read]; intro h1; omega
        · simp [Memory.read, hx, ih]

theorem Memory.read_erase (m : Memory) (a x : Nat) :
    Memory.read (Memory.erase m a) x = if x = a then Memory.unlisted else Memory.read m x := by
  induction m with
  | nil => simp [Memory.erase, Memory.read]
  | cons p m ih =>
    obtain ⟨k, w⟩ := p
    unfold Memory.erase
    split
    · rename_i hak; subst hak
      rw [ih]; by_cases hx : x = a <;> simp [Memory.read, hx]
    · by_cases hx : x = k
      · subst hx; simp [Memory.read]; intro h1; omega
      · simp [Memory.read, hx, ih]

/-- A read after a write gives the byte written, and a write leaves every other address alone. -/
theorem Memory.read_write (m : Memory) (a : Nat) (v : Byte) (x : Nat) :
    Memory.read (Memory.write m a v) x = if x = a then v else Memory.read m x := by
  unfold Memory.write
  split
  · rename_i hv; rw [Memory.read_erase, hv]
  · exact Memory.read_insert _ _ _ _

theorem Memory.read_of_lt (m : Memory) (a : Nat) (h : ∀ x ∈ m, a < x.1) : Memory.read m a = Memory.unlisted := by
  induction m with
  | nil => rfl
  | cons p m ih =>
    have h1 : a < p.1 := h p (by simp)
    have : a ≠ p.1 := by omega
    simp only [Memory.read, this, if_false]
    exact ih fun x hx => h x (by simp [hx])

theorem Memory.mem_insert {m : Memory} {a : Nat} {v : Byte} {x : Host.Cell} (h : x ∈ Memory.insert m a v) :
    x = (a, v) ∨ x ∈ m := by
  induction m with
  | nil => simpa [Memory.insert] using h
  | cons p m ih =>
    obtain ⟨k, w⟩ := p
    unfold Memory.insert at h
    split at h
    · simpa using h
    · split at h
      · simp at h; tauto
      · simp at h
        rcases h with h | h
        · right; simp [h]
        · rcases ih h with h | h
          · exact .inl h
          · right; simp [h]

theorem Memory.mem_erase {m : Memory} {a : Nat} {x : Host.Cell} (h : x ∈ Memory.erase m a) : x ∈ m := by
  induction m with
  | nil => simp [Memory.erase] at h
  | cons p m ih =>
    obtain ⟨k, w⟩ := p
    unfold Memory.erase at h
    split at h
    · simp [ih h]
    · simp at h ⊢
      rcases h with h | h
      · exact .inl h
      · exact .inr (ih h)

/-- A cell of the memory after a write is the cell written or a cell of the memory before. -/
theorem Memory.mem_write {m : Memory} {a : Nat} {v : Byte} {x : Host.Cell} (h : x ∈ Memory.write m a v) :
    x = (a, v) ∨ x ∈ m := by
  unfold Memory.write at h
  split at h
  · exact .inr (Memory.mem_erase h)
  · exact Memory.mem_insert h

theorem Memory.sorted_insert {m : Memory} (h : m.Pairwise (fun p q => p.1 < q.1)) (a : Nat) (v : Byte) :
    (Memory.insert m a v).Pairwise (fun p q => p.1 < q.1) := by
  induction m with
  | nil => simp [Memory.insert]
  | cons p m ih =>
    obtain ⟨k, w⟩ := p
    obtain ⟨hk, hm⟩ := List.pairwise_cons.1 h
    unfold Memory.insert
    split
    · rename_i hak
      refine List.pairwise_cons.2 ⟨fun x hx => ?_, h⟩
      rcases List.mem_cons.1 hx with rfl | hx
      · exact hak
      · exact lt_trans hak (hk x hx)
    · split
      · rename_i hak; subst hak; exact List.pairwise_cons.2 ⟨hk, hm⟩
      · refine List.pairwise_cons.2 ⟨fun x hx => ?_, ih hm⟩
        rcases Memory.mem_insert hx with rfl | hx
        · show k < a; omega
        · exact hk x hx

theorem Memory.sorted_erase {m : Memory} (h : m.Pairwise (fun p q => p.1 < q.1)) (a : Nat) :
    (Memory.erase m a).Pairwise (fun p q => p.1 < q.1) := by
  induction m with
  | nil => simp [Memory.erase]
  | cons p m ih =>
    obtain ⟨k, w⟩ := p
    obtain ⟨hk, hm⟩ := List.pairwise_cons.1 h
    unfold Memory.erase
    split
    · exact ih hm
    · exact List.pairwise_cons.2 ⟨fun x hx => hk x (Memory.mem_erase hx), ih hm⟩

/-- A write keeps the canonical form. -/
theorem Memory.wf_write {m : Memory} (h : m.wf) (a : Nat) (v : Byte) : (Memory.write m a v).wf := by
  refine ⟨?_, fun x hx => ?_⟩
  · unfold Memory.write
    split
    · exact Memory.sorted_erase h.1 a
    · exact Memory.sorted_insert h.1 a v
  · unfold Memory.write at hx
    split at hx
    · exact h.2 x (Memory.mem_erase hx)
    · rename_i hv
      rcases Memory.mem_insert hx with rfl | hx
      · exact hv
      · exact h.2 x hx

@[simp] theorem Memory.wf_nil : Memory.wf [] := by simp [Memory.wf]

/-- In canonical form, memories that read alike are the same list. -/
theorem Memory.ext_of_read {m n : Memory} (hm : m.wf) (hn : n.wf) (h : ∀ a, Memory.read m a = Memory.read n a) :
    m = n := by
  induction m generalizing n with
  | nil =>
    cases n with
    | nil => rfl
    | cons q n =>
      have := h q.1
      simp [Memory.read] at this
      exact absurd this.symm (hn.2 q (by simp))
  | cons p m ih =>
    obtain ⟨hk, hmt⟩ := List.pairwise_cons.1 hm.1
    cases n with
    | nil =>
      have := h p.1
      simp [Memory.read] at this
      exact absurd this (hm.2 p (by simp))
    | cons q n =>
      obtain ⟨hq, hnt⟩ := List.pairwise_cons.1 hn.1
      have hpm : Memory.read (p :: m) p.1 = p.2 := by simp [Memory.read]
      have hqm : Memory.read (q :: n) q.1 = q.2 := by simp [Memory.read]
      have hkey : p.1 = q.1 := by
        rcases Nat.lt_trichotomy p.1 q.1 with hlt | heq | hgt
        · have h1 : Memory.read (q :: n) p.1 = Memory.unlisted :=
            Memory.read_of_lt _ _ fun x hx => by
              rcases List.mem_cons.1 hx with rfl | hx
              · exact hlt
              · exact lt_trans hlt (hq x hx)
          exact absurd (by rw [← hpm, h, h1]) (hm.2 p (by simp))
        · exact heq
        · have h1 : Memory.read (p :: m) q.1 = Memory.unlisted :=
            Memory.read_of_lt _ _ fun x hx => by
              rcases List.mem_cons.1 hx with rfl | hx
              · exact hgt
              · exact lt_trans hgt (hk x hx)
          exact absurd (by rw [← hqm, ← h, h1]) (hn.2 q (by simp))
      have hval : p.2 = q.2 := by rw [← hpm, ← hqm, ← hkey, h]
      have hpq : p = q := Prod.ext hkey hval
      subst hpq
      congr 1
      refine ih ⟨hmt, fun x hx => hm.2 x (by simp [hx])⟩ ⟨hnt, fun x hx => hn.2 x (by simp [hx])⟩ fun a => ?_
      by_cases ha : a = p.1
      · subst ha
        rw [Memory.read_of_lt m _ fun x hx => hk x hx, Memory.read_of_lt n _ fun x hx => hq x hx]
      · have := h a
        simpa [Memory.read, ha] using this

end Sys2Proof.Machine
end

