-- ==== Sys2Proof/Laws/Apu.lean ====
section
/-! SUPPORT. The APU: the shadow RAM after a write, the ranges of the length counters (`60_exceptions.md` R274) and of what
the sink is given (R273). -/

namespace Sys2Proof.Machine

theorem Pulse.trigger_length {p : Pulse} (h : p.lengthCounter ≤ 64) : p.trigger.lengthCounter ≤ 64 := by
  unfold Pulse.trigger; dsimp only; split
  · decide
  · exact h

theorem Pulse.writeDutyLength_length (p : Pulse) (v : Byte) : (p.writeDutyLength v).lengthCounter ≤ 64 := by
  have h : ∀ v : Byte, 64 - (v.extractLsb' 0 6).setWidth 7 ≤ (64 : BitVec 7) := by decide
  exact h v

@[simp] theorem Pulse.writeEnvelope_length (p : Pulse) (v : Byte) :
    (p.writeEnvelope v).lengthCounter = p.lengthCounter := rfl

@[simp] theorem Pulse.writeFrequencyLow_length (p : Pulse) (h v : Byte) :
    (p.writeFrequencyLow h v).lengthCounter = p.lengthCounter := rfl

theorem Pulse.writeControl_length {p : Pulse} (l v : Byte) (h : p.lengthCounter ≤ 64) :
    (p.writeControl l v).lengthCounter ≤ 64 := by
  unfold Pulse.writeControl; dsimp only; split
  · exact Pulse.trigger_length h
  · exact h

theorem Pulse.lengthTick_length {p : Pulse} (h : p.lengthCounter ≤ 64) : p.lengthTick.lengthCounter ≤ 64 := by
  have hdec : ∀ n : BitVec 7, n ≤ 64 → n ≠ 0 → n - 1 ≤ 64 := by decide
  unfold Pulse.lengthTick
  split
  · rename_i hc
    dsimp only; split <;> exact hdec _ h hc.2
  · exact h

@[simp] theorem Sweep.tick_length (w : Sweep) (p : Pulse) : (w.tick p).lengthCounter = p.lengthCounter := by
  unfold Sweep.tick; dsimp only; repeat' split
  all_goals rfl

@[simp] theorem Pulse.stepVolume_length (p : Pulse) : p.stepVolume.lengthCounter = p.lengthCounter := by
  unfold Pulse.stepVolume; repeat' split
  all_goals rfl

@[simp] theorem Pulse.envelopeTick_length (p : Pulse) : p.envelopeTick.lengthCounter = p.lengthCounter := by
  unfold Pulse.envelopeTick; dsimp only; repeat' split
  all_goals simp

/-- The dispatch does not touch the shadow RAM. -/
@[simp] theorem Apu.dispatch_shadow (u : Apu) (a : Word) (v : Byte) : (u.dispatch a v).shadow = u.shadow := by
  unfold Apu.dispatch; repeat' split
  all_goals rfl

@[simp] theorem Apu.dispatch_seqIndex (u : Apu) (a : Word) (v : Byte) : (u.dispatch a v).seqIndex = u.seqIndex := by
  unfold Apu.dispatch; repeat' split
  all_goals rfl

theorem Apu.dispatch_length {u : Apu} (a : Word) (v : Byte) (h1 : u.pulse1.lengthCounter ≤ 64)
    (h2 : u.pulse2.lengthCounter ≤ 64) :
    (u.dispatch a v).pulse1.lengthCounter ≤ 64 ∧ (u.dispatch a v).pulse2.lengthCounter ≤ 64 := by
  unfold Apu.dispatch
  split; · exact ⟨h1, h2⟩
  split; · exact ⟨Pulse.writeDutyLength_length _ _, h2⟩
  split; · exact ⟨h1, h2⟩
  split; · exact ⟨h1, h2⟩
  split; · exact ⟨Pulse.writeControl_length _ _ h1, h2⟩
  split; · exact ⟨h1, Pulse.writeDutyLength_length _ _⟩
  split; · exact ⟨h1, h2⟩
  split; · exact ⟨h1, h2⟩
  split; · exact ⟨h1, Pulse.writeControl_length _ _ h2⟩
  exact ⟨h1, h2⟩

@[simp] theorem Apu.write_shadow (u : Apu) (a : Word) (v : Byte) :
    (u.write a v).shadow = u.shadow.write a.toNat v := by
  simp [Apu.write, Apu.setShadow]

/-- A shadow byte after a register write (`60_exceptions.md` R276, R288). -/
theorem Apu.read_write (u : Apu) (a : Word) (v : Byte) (x : Word) :
    (u.write a v).read x = if x = a then v else u.read x := by
  have : (x.toNat = a.toNat) ↔ x = a := ⟨BitVec.eq_of_toNat_eq, fun h => by rw [h]⟩
  simp only [Apu.read, Apu.write_shadow, Memory.read_write, this]

@[simp] theorem Apu.clock256hz_shadow (u : Apu) : u.clock256hz.shadow = u.shadow := by
  unfold Apu.clock256hz; dsimp only; repeat' split
  all_goals rfl

theorem Apu.clock256hz_pulse1_length (u : Apu) :
    u.clock256hz.pulse1.lengthCounter = u.pulse1.lengthTick.lengthCounter := by
  unfold Apu.clock256hz; dsimp only
  split <;> split <;> simp only [Pulse.envelopeTick_length, Sweep.tick_length]

theorem Apu.clock256hz_pulse2_length (u : Apu) :
    u.clock256hz.pulse2.lengthCounter = u.pulse2.lengthTick.lengthCounter := by
  unfold Apu.clock256hz; dsimp only
  split <;> split <;> simp only [Pulse.envelopeTick_length]

theorem Apu.clock256hz_length {u : Apu} (h1 : u.pulse1.lengthCounter ≤ 64) (h2 : u.pulse2.lengthCounter ≤ 64) :
    u.clock256hz.pulse1.lengthCounter ≤ 64 ∧ u.clock256hz.pulse2.lengthCounter ≤ 64 := by
  rw [Apu.clock256hz_pulse1_length, Apu.clock256hz_pulse2_length]
  exact ⟨Pulse.lengthTick_length h1, Pulse.lengthTick_length h2⟩

/-- What the sink is given lies in the sink's ranges (R273). -/
theorem unitRange_mem (q : ℚ) : 0 ≤ unitRange q ∧ unitRange q ≤ 1 :=
  ⟨le_max_left _ _, max_le zero_le_one (min_le_left _ _)⟩

theorem positiveHz_pos (q : ℚ) : 0 < positiveHz q := by
  unfold positiveHz; split
  · assumption
  · exact zero_lt_one

end Sys2Proof.Machine
end

