-- ==== Sys2Proof/Laws/Bits.lean ====
section
/-! SUPPORT. Byte order, sign extension and single bits. -/

namespace Sys2Proof

theorem toNat_word (h l : Byte) : (word h l).toNat = h.toNat * 256 + l.toNat := by
  simp only [word, BitVec.toNat_ofNat]; omega

theorem toNat_loByte (w : Word) : (loByte w).toNat = w.toNat % 256 := by simp [loByte]

theorem toNat_hiByte (w : Word) : (hiByte w).toNat = w.toNat / 256 := by
  simp only [hiByte, BitVec.toNat_ofNat]; omega

@[simp] theorem loByte_word (h l : Byte) : loByte (word h l) = l :=
  BitVec.eq_of_toNat_eq (by rw [toNat_loByte, toNat_word]; omega)

@[simp] theorem hiByte_word (h l : Byte) : hiByte (word h l) = h :=
  BitVec.eq_of_toNat_eq (by rw [toNat_hiByte, toNat_word]; omega)

@[simp] theorem word_hiByte_loByte (w : Word) : word (hiByte w) (loByte w) = w :=
  BitVec.eq_of_toNat_eq (by rw [toNat_word, toNat_hiByte, toNat_loByte]; omega)

theorem getBit_eight_le (f : Byte) {k : Nat} (h : 8 ≤ k) : getBit f k = false := by
  simp [getBit, BitVec.getLsbD_of_ge, h]

theorem getBit_setBit (f : Byte) (k j : Nat) (b : Bool) :
    getBit (setBit f k b) j = if j = k ∧ j < 8 then b else getBit f j := by
  unfold getBit setBit
  by_cases hj : j < 8
  · cases b <;> by_cases h : j = k
    · subst h; simp [hj]
    · have : j < k ∨ j - k ≠ 0 := by omega
      rcases this with h1 | h1 <;> simp [hj, h, h1]
    · subst h; simp [hj]
    · have : j < k ∨ j - k ≠ 0 := by omega
      rcases this with h1 | h1 <;> simp [hj, h, h1]
  · rw [BitVec.getLsbD_of_ge _ _ (by omega), BitVec.getLsbD_of_ge _ _ (by omega)]; simp [hj]

theorem getBit_ext {f g : Byte} (h : ∀ k, getBit f k = getBit g k) : f = g :=
  BitVec.eq_of_getLsbD_eq fun k _ => h k

theorem sext16_eq_signExtend (b : Byte) : sext16 b = b.signExtend 16 := by
  revert b; decide

/-- The sign extension as a number: `b` below 0x80, `b + 0xFF00` from there (`00_scope.md` R10). -/
theorem toNat_sext16 (b : Byte) : (sext16 b).toNat = if b.toNat < 0x80 then b.toNat else b.toNat + 0xFF00 := by
  revert b; decide

theorem toNat_zext16 (b : Byte) : (zext16 b).toNat = b.toNat := by
  simp [zext16]; omega

end Sys2Proof
end

