-- ==== Sys2Proof/Laws/State.lean ====
section
/-! SUPPORT. One lemma per field per update of State: what an update sets, and that it leaves every other field alone. -/

namespace Sys2Proof.Machine

variable (s : State)

/-! ## Registers -/

@[simp] theorem State.setPc_config (w : Word) : (s.setPc w).config = s.config := rfl
@[simp] theorem State.setPc_bus (w : Word) : (s.setPc w).bus = s.bus := rfl
@[simp] theorem State.setPc_status (w : Word) : (s.setPc w).status = s.status := rfl
@[simp] theorem State.setPc_schedule (w : Word) : (s.setPc w).schedule = s.schedule := rfl
@[simp] theorem State.setPc_callReturn (w : Word) : (s.setPc w).callReturn = s.callReturn := rfl
@[simp] theorem State.setPc_a (w : Word) : (s.setPc w).cpu.a = s.cpu.a := rfl
@[simp] theorem State.setPc_f (w : Word) : (s.setPc w).cpu.f = s.cpu.f := rfl
@[simp] theorem State.setPc_b (w : Word) : (s.setPc w).cpu.b = s.cpu.b := rfl
@[simp] theorem State.setPc_c (w : Word) : (s.setPc w).cpu.c = s.cpu.c := rfl
@[simp] theorem State.setPc_d (w : Word) : (s.setPc w).cpu.d = s.cpu.d := rfl
@[simp] theorem State.setPc_e (w : Word) : (s.setPc w).cpu.e = s.cpu.e := rfl
@[simp] theorem State.setPc_h (w : Word) : (s.setPc w).cpu.h = s.cpu.h := rfl
@[simp] theorem State.setPc_l (w : Word) : (s.setPc w).cpu.l = s.cpu.l := rfl
@[simp] theorem State.setPc_sp (w : Word) : (s.setPc w).cpu.sp = s.cpu.sp := rfl
@[simp] theorem State.setPc_pc (w : Word) : (s.setPc w).cpu.pc = w := rfl
@[simp] theorem State.setPc_i (w : Word) : (s.setPc w).cpu.i = s.cpu.i := rfl
@[simp] theorem State.setPc_r (w : Word) : (s.setPc w).cpu.r = s.cpu.r := rfl
@[simp] theorem State.setPc_iff1 (w : Word) : (s.setPc w).cpu.iff1 = s.cpu.iff1 := rfl
@[simp] theorem State.setPc_iff2 (w : Word) : (s.setPc w).cpu.iff2 = s.cpu.iff2 := rfl
@[simp] theorem State.setPc_eiPending (w : Word) : (s.setPc w).cpu.eiPending = s.cpu.eiPending := rfl
@[simp] theorem State.setPc_shadow (w : Word) : (s.setPc w).cpu.shadow = s.cpu.shadow := rfl

@[simp] theorem State.setSp_config (w : Word) : (s.setSp w).config = s.config := rfl
@[simp] theorem State.setSp_bus (w : Word) : (s.setSp w).bus = s.bus := rfl
@[simp] theorem State.setSp_status (w : Word) : (s.setSp w).status = s.status := rfl
@[simp] theorem State.setSp_schedule (w : Word) : (s.setSp w).schedule = s.schedule := rfl
@[simp] theorem State.setSp_callReturn (w : Word) : (s.setSp w).callReturn = s.callReturn := rfl
@[simp] theorem State.setSp_a (w : Word) : (s.setSp w).cpu.a = s.cpu.a := rfl
@[simp] theorem State.setSp_f (w : Word) : (s.setSp w).cpu.f = s.cpu.f := rfl
@[simp] theorem State.setSp_b (w : Word) : (s.setSp w).cpu.b = s.cpu.b := rfl
@[simp] theorem State.setSp_c (w : Word) : (s.setSp w).cpu.c = s.cpu.c := rfl
@[simp] theorem State.setSp_d (w : Word) : (s.setSp w).cpu.d = s.cpu.d := rfl
@[simp] theorem State.setSp_e (w : Word) : (s.setSp w).cpu.e = s.cpu.e := rfl
@[simp] theorem State.setSp_h (w : Word) : (s.setSp w).cpu.h = s.cpu.h := rfl
@[simp] theorem State.setSp_l (w : Word) : (s.setSp w).cpu.l = s.cpu.l := rfl
@[simp] theorem State.setSp_sp (w : Word) : (s.setSp w).cpu.sp = w := rfl
@[simp] theorem State.setSp_pc (w : Word) : (s.setSp w).cpu.pc = s.cpu.pc := rfl
@[simp] theorem State.setSp_i (w : Word) : (s.setSp w).cpu.i = s.cpu.i := rfl
@[simp] theorem State.setSp_r (w : Word) : (s.setSp w).cpu.r = s.cpu.r := rfl
@[simp] theorem State.setSp_iff1 (w : Word) : (s.setSp w).cpu.iff1 = s.cpu.iff1 := rfl
@[simp] theorem State.setSp_iff2 (w : Word) : (s.setSp w).cpu.iff2 = s.cpu.iff2 := rfl
@[simp] theorem State.setSp_eiPending (w : Word) : (s.setSp w).cpu.eiPending = s.cpu.eiPending := rfl
@[simp] theorem State.setSp_shadow (w : Word) : (s.setSp w).cpu.shadow = s.cpu.shadow := rfl

@[simp] theorem State.setIff_config (b : Bool) : (s.setIff b).config = s.config := rfl
@[simp] theorem State.setIff_bus (b : Bool) : (s.setIff b).bus = s.bus := rfl
@[simp] theorem State.setIff_status (b : Bool) : (s.setIff b).status = s.status := rfl
@[simp] theorem State.setIff_schedule (b : Bool) : (s.setIff b).schedule = s.schedule := rfl
@[simp] theorem State.setIff_callReturn (b : Bool) : (s.setIff b).callReturn = s.callReturn := rfl
@[simp] theorem State.setIff_a (b : Bool) : (s.setIff b).cpu.a = s.cpu.a := rfl
@[simp] theorem State.setIff_f (b : Bool) : (s.setIff b).cpu.f = s.cpu.f := rfl
@[simp] theorem State.setIff_b (b : Bool) : (s.setIff b).cpu.b = s.cpu.b := rfl
@[simp] theorem State.setIff_c (b : Bool) : (s.setIff b).cpu.c = s.cpu.c := rfl
@[simp] theorem State.setIff_d (b : Bool) : (s.setIff b).cpu.d = s.cpu.d := rfl
@[simp] theorem State.setIff_e (b : Bool) : (s.setIff b).cpu.e = s.cpu.e := rfl
@[simp] theorem State.setIff_h (b : Bool) : (s.setIff b).cpu.h = s.cpu.h := rfl
@[simp] theorem State.setIff_l (b : Bool) : (s.setIff b).cpu.l = s.cpu.l := rfl
@[simp] theorem State.setIff_sp (b : Bool) : (s.setIff b).cpu.sp = s.cpu.sp := rfl
@[simp] theorem State.setIff_pc (b : Bool) : (s.setIff b).cpu.pc = s.cpu.pc := rfl
@[simp] theorem State.setIff_i (b : Bool) : (s.setIff b).cpu.i = s.cpu.i := rfl
@[simp] theorem State.setIff_r (b : Bool) : (s.setIff b).cpu.r = s.cpu.r := rfl
@[simp] theorem State.setIff_iff1 (b : Bool) : (s.setIff b).cpu.iff1 = b := rfl
@[simp] theorem State.setIff_iff2 (b : Bool) : (s.setIff b).cpu.iff2 = b := rfl
@[simp] theorem State.setIff_eiPending (b : Bool) : (s.setIff b).cpu.eiPending = s.cpu.eiPending := rfl
@[simp] theorem State.setIff_shadow (b : Bool) : (s.setIff b).cpu.shadow = s.cpu.shadow := rfl

@[simp] theorem State.setEiPending_config (b : Bool) : (s.setEiPending b).config = s.config := rfl
@[simp] theorem State.setEiPending_bus (b : Bool) : (s.setEiPending b).bus = s.bus := rfl
@[simp] theorem State.setEiPending_status (b : Bool) : (s.setEiPending b).status = s.status := rfl
@[simp] theorem State.setEiPending_schedule (b : Bool) : (s.setEiPending b).schedule = s.schedule := rfl
@[simp] theorem State.setEiPending_callReturn (b : Bool) : (s.setEiPending b).callReturn = s.callReturn := rfl
@[simp] theorem State.setEiPending_a (b : Bool) : (s.setEiPending b).cpu.a = s.cpu.a := rfl
@[simp] theorem State.setEiPending_f (b : Bool) : (s.setEiPending b).cpu.f = s.cpu.f := rfl
@[simp] theorem State.setEiPending_b (b : Bool) : (s.setEiPending b).cpu.b = s.cpu.b := rfl
@[simp] theorem State.setEiPending_c (b : Bool) : (s.setEiPending b).cpu.c = s.cpu.c := rfl
@[simp] theorem State.setEiPending_d (b : Bool) : (s.setEiPending b).cpu.d = s.cpu.d := rfl
@[simp] theorem State.setEiPending_e (b : Bool) : (s.setEiPending b).cpu.e = s.cpu.e := rfl
@[simp] theorem State.setEiPending_h (b : Bool) : (s.setEiPending b).cpu.h = s.cpu.h := rfl
@[simp] theorem State.setEiPending_l (b : Bool) : (s.setEiPending b).cpu.l = s.cpu.l := rfl
@[simp] theorem State.setEiPending_sp (b : Bool) : (s.setEiPending b).cpu.sp = s.cpu.sp := rfl
@[simp] theorem State.setEiPending_pc (b : Bool) : (s.setEiPending b).cpu.pc = s.cpu.pc := rfl
@[simp] theorem State.setEiPending_i (b : Bool) : (s.setEiPending b).cpu.i = s.cpu.i := rfl
@[simp] theorem State.setEiPending_r (b : Bool) : (s.setEiPending b).cpu.r = s.cpu.r := rfl
@[simp] theorem State.setEiPending_iff1 (b : Bool) : (s.setEiPending b).cpu.iff1 = s.cpu.iff1 := rfl
@[simp] theorem State.setEiPending_iff2 (b : Bool) : (s.setEiPending b).cpu.iff2 = s.cpu.iff2 := rfl
@[simp] theorem State.setEiPending_eiPending (b : Bool) : (s.setEiPending b).cpu.eiPending = b := rfl
@[simp] theorem State.setEiPending_shadow (b : Bool) : (s.setEiPending b).cpu.shadow = s.cpu.shadow := rfl

@[simp] theorem State.setF_config (f : Byte) : (s.setF f).config = s.config := rfl
@[simp] theorem State.setF_bus (f : Byte) : (s.setF f).bus = s.bus := rfl
@[simp] theorem State.setF_status (f : Byte) : (s.setF f).status = s.status := rfl
@[simp] theorem State.setF_schedule (f : Byte) : (s.setF f).schedule = s.schedule := rfl
@[simp] theorem State.setF_callReturn (f : Byte) : (s.setF f).callReturn = s.callReturn := rfl
@[simp] theorem State.setF_a (f : Byte) : (s.setF f).cpu.a = s.cpu.a := rfl
@[simp] theorem State.setF_f (f : Byte) : (s.setF f).cpu.f = maskF s.config.variant f := rfl
@[simp] theorem State.setF_b (f : Byte) : (s.setF f).cpu.b = s.cpu.b := rfl
@[simp] theorem State.setF_c (f : Byte) : (s.setF f).cpu.c = s.cpu.c := rfl
@[simp] theorem State.setF_d (f : Byte) : (s.setF f).cpu.d = s.cpu.d := rfl
@[simp] theorem State.setF_e (f : Byte) : (s.setF f).cpu.e = s.cpu.e := rfl
@[simp] theorem State.setF_h (f : Byte) : (s.setF f).cpu.h = s.cpu.h := rfl
@[simp] theorem State.setF_l (f : Byte) : (s.setF f).cpu.l = s.cpu.l := rfl
@[simp] theorem State.setF_sp (f : Byte) : (s.setF f).cpu.sp = s.cpu.sp := rfl
@[simp] theorem State.setF_pc (f : Byte) : (s.setF f).cpu.pc = s.cpu.pc := rfl
@[simp] theorem State.setF_i (f : Byte) : (s.setF f).cpu.i = s.cpu.i := rfl
@[simp] theorem State.setF_r (f : Byte) : (s.setF f).cpu.r = s.cpu.r := rfl
@[simp] theorem State.setF_iff1 (f : Byte) : (s.setF f).cpu.iff1 = s.cpu.iff1 := rfl
@[simp] theorem State.setF_iff2 (f : Byte) : (s.setF f).cpu.iff2 = s.cpu.iff2 := rfl
@[simp] theorem State.setF_eiPending (f : Byte) : (s.setF f).cpu.eiPending = s.cpu.eiPending := rfl
@[simp] theorem State.setF_shadow (f : Byte) : (s.setF f).cpu.shadow = s.cpu.shadow := rfl

@[simp] theorem State.setReg8_config (r : Reg8) (v : Byte) : (s.setReg8 r v).config = s.config := by cases r <;> rfl
@[simp] theorem State.setReg8_bus (r : Reg8) (v : Byte) : (s.setReg8 r v).bus = s.bus := by cases r <;> rfl
@[simp] theorem State.setReg8_status (r : Reg8) (v : Byte) : (s.setReg8 r v).status = s.status := by cases r <;> rfl
@[simp] theorem State.setReg8_schedule (r : Reg8) (v : Byte) : (s.setReg8 r v).schedule = s.schedule := by cases r <;> rfl
@[simp] theorem State.setReg8_callReturn (r : Reg8) (v : Byte) : (s.setReg8 r v).callReturn = s.callReturn := by cases r <;> rfl
@[simp] theorem State.setReg8_f (r : Reg8) (v : Byte) : (s.setReg8 r v).cpu.f = s.cpu.f := by cases r <;> rfl
@[simp] theorem State.setReg8_sp (r : Reg8) (v : Byte) : (s.setReg8 r v).cpu.sp = s.cpu.sp := by cases r <;> rfl
@[simp] theorem State.setReg8_pc (r : Reg8) (v : Byte) : (s.setReg8 r v).cpu.pc = s.cpu.pc := by cases r <;> rfl
@[simp] theorem State.setReg8_i (r : Reg8) (v : Byte) : (s.setReg8 r v).cpu.i = s.cpu.i := by cases r <;> rfl
@[simp] theorem State.setReg8_r (r : Reg8) (v : Byte) : (s.setReg8 r v).cpu.r = s.cpu.r := by cases r <;> rfl
@[simp] theorem State.setReg8_iff1 (r : Reg8) (v : Byte) : (s.setReg8 r v).cpu.iff1 = s.cpu.iff1 := by cases r <;> rfl
@[simp] theorem State.setReg8_iff2 (r : Reg8) (v : Byte) : (s.setReg8 r v).cpu.iff2 = s.cpu.iff2 := by cases r <;> rfl
@[simp] theorem State.setReg8_eiPending (r : Reg8) (v : Byte) : (s.setReg8 r v).cpu.eiPending = s.cpu.eiPending := by cases r <;> rfl
@[simp] theorem State.setReg8_shadow (r : Reg8) (v : Byte) : (s.setReg8 r v).cpu.shadow = s.cpu.shadow := by cases r <;> rfl

@[simp] theorem State.setPair16_config (p : Reg16) (w : Word) : (s.setPair16 p w).config = s.config := by cases p <;> rfl
@[simp] theorem State.setPair16_bus (p : Reg16) (w : Word) : (s.setPair16 p w).bus = s.bus := by cases p <;> rfl
@[simp] theorem State.setPair16_status (p : Reg16) (w : Word) : (s.setPair16 p w).status = s.status := by cases p <;> rfl
@[simp] theorem State.setPair16_schedule (p : Reg16) (w : Word) : (s.setPair16 p w).schedule = s.schedule := by cases p <;> rfl
@[simp] theorem State.setPair16_callReturn (p : Reg16) (w : Word) : (s.setPair16 p w).callReturn = s.callReturn := by cases p <;> rfl
@[simp] theorem State.setPair16_a (p : Reg16) (w : Word) : (s.setPair16 p w).cpu.a = s.cpu.a := by cases p <;> rfl
@[simp] theorem State.setPair16_f (p : Reg16) (w : Word) : (s.setPair16 p w).cpu.f = s.cpu.f := by cases p <;> rfl
@[simp] theorem State.setPair16_pc (p : Reg16) (w : Word) : (s.setPair16 p w).cpu.pc = s.cpu.pc := by cases p <;> rfl
@[simp] theorem State.setPair16_i (p : Reg16) (w : Word) : (s.setPair16 p w).cpu.i = s.cpu.i := by cases p <;> rfl
@[simp] theorem State.setPair16_r (p : Reg16) (w : Word) : (s.setPair16 p w).cpu.r = s.cpu.r := by cases p <;> rfl
@[simp] theorem State.setPair16_iff1 (p : Reg16) (w : Word) : (s.setPair16 p w).cpu.iff1 = s.cpu.iff1 := by cases p <;> rfl
@[simp] theorem State.setPair16_iff2 (p : Reg16) (w : Word) : (s.setPair16 p w).cpu.iff2 = s.cpu.iff2 := by cases p <;> rfl
@[simp] theorem State.setPair16_eiPending (p : Reg16) (w : Word) : (s.setPair16 p w).cpu.eiPending = s.cpu.eiPending := by cases p <;> rfl
@[simp] theorem State.setPair16_shadow (p : Reg16) (w : Word) : (s.setPair16 p w).cpu.shadow = s.cpu.shadow := by cases p <;> rfl

@[simp] theorem State.setFlag_config (fl : Flag) (b : Bool) : (s.setFlag fl b).config = s.config := by unfold State.setFlag; split <;> rfl
@[simp] theorem State.setFlag_bus (fl : Flag) (b : Bool) : (s.setFlag fl b).bus = s.bus := by unfold State.setFlag; split <;> rfl
@[simp] theorem State.setFlag_status (fl : Flag) (b : Bool) : (s.setFlag fl b).status = s.status := by unfold State.setFlag; split <;> rfl
@[simp] theorem State.setFlag_schedule (fl : Flag) (b : Bool) : (s.setFlag fl b).schedule = s.schedule := by unfold State.setFlag; split <;> rfl
@[simp] theorem State.setFlag_callReturn (fl : Flag) (b : Bool) : (s.setFlag fl b).callReturn = s.callReturn := by unfold State.setFlag; split <;> rfl
@[simp] theorem State.setFlag_a (fl : Flag) (b : Bool) : (s.setFlag fl b).cpu.a = s.cpu.a := by unfold State.setFlag; split <;> rfl
@[simp] theorem State.setFlag_b (fl : Flag) (b : Bool) : (s.setFlag fl b).cpu.b = s.cpu.b := by unfold State.setFlag; split <;> rfl
@[simp] theorem State.setFlag_c (fl : Flag) (b : Bool) : (s.setFlag fl b).cpu.c = s.cpu.c := by unfold State.setFlag; split <;> rfl
@[simp] theorem State.setFlag_d (fl : Flag) (b : Bool) : (s.setFlag fl b).cpu.d = s.cpu.d := by unfold State.setFlag; split <;> rfl
@[simp] theorem State.setFlag_e (fl : Flag) (b : Bool) : (s.setFlag fl b).cpu.e = s.cpu.e := by unfold State.setFlag; split <;> rfl
@[simp] theorem State.setFlag_h (fl : Flag) (b : Bool) : (s.setFlag fl b).cpu.h = s.cpu.h := by unfold State.setFlag; split <;> rfl
@[simp] theorem State.setFlag_l (fl : Flag) (b : Bool) : (s.setFlag fl b).cpu.l = s.cpu.l := by unfold State.setFlag; split <;> rfl
@[simp] theorem State.setFlag_sp (fl : Flag) (b : Bool) : (s.setFlag fl b).cpu.sp = s.cpu.sp := by unfold State.setFlag; split <;> rfl
@[simp] theorem State.setFlag_pc (fl : Flag) (b : Bool) : (s.setFlag fl b).cpu.pc = s.cpu.pc := by unfold State.setFlag; split <;> rfl
@[simp] theorem State.setFlag_i (fl : Flag) (b : Bool) : (s.setFlag fl b).cpu.i = s.cpu.i := by unfold State.setFlag; split <;> rfl
@[simp] theorem State.setFlag_r (fl : Flag) (b : Bool) : (s.setFlag fl b).cpu.r = s.cpu.r := by unfold State.setFlag; split <;> rfl
@[simp] theorem State.setFlag_iff1 (fl : Flag) (b : Bool) : (s.setFlag fl b).cpu.iff1 = s.cpu.iff1 := by unfold State.setFlag; split <;> rfl
@[simp] theorem State.setFlag_iff2 (fl : Flag) (b : Bool) : (s.setFlag fl b).cpu.iff2 = s.cpu.iff2 := by unfold State.setFlag; split <;> rfl
@[simp] theorem State.setFlag_eiPending (fl : Flag) (b : Bool) : (s.setFlag fl b).cpu.eiPending = s.cpu.eiPending := by unfold State.setFlag; split <;> rfl
@[simp] theorem State.setFlag_shadow (fl : Flag) (b : Bool) : (s.setFlag fl b).cpu.shadow = s.cpu.shadow := by unfold State.setFlag; split <;> rfl

/-! ## Bus -/

@[simp] theorem State.write8_config (a : Word) (v : Byte) : (s.write8 a v).config = s.config := rfl
@[simp] theorem State.write8_status (a : Word) (v : Byte) : (s.write8 a v).status = s.status := rfl
@[simp] theorem State.write8_schedule (a : Word) (v : Byte) : (s.write8 a v).schedule = s.schedule := rfl
@[simp] theorem State.write8_callReturn (a : Word) (v : Byte) : (s.write8 a v).callReturn = s.callReturn := rfl
@[simp] theorem State.write8_cpu (a : Word) (v : Byte) : (s.write8 a v).cpu = s.cpu := rfl
@[simp] theorem State.write8_bus (a : Word) (v : Byte) : (s.write8 a v).bus = s.bus.write8 s.config a v := rfl

@[simp] theorem State.afterRead_config (a : Word) : (s.afterRead a).config = s.config := rfl
@[simp] theorem State.afterRead_status (a : Word) : (s.afterRead a).status = s.status := rfl
@[simp] theorem State.afterRead_schedule (a : Word) : (s.afterRead a).schedule = s.schedule := rfl
@[simp] theorem State.afterRead_callReturn (a : Word) : (s.afterRead a).callReturn = s.callReturn := rfl
@[simp] theorem State.afterRead_cpu (a : Word) : (s.afterRead a).cpu = s.cpu := rfl
@[simp] theorem State.afterRead_bus (a : Word) : (s.afterRead a).bus = s.bus.afterRead s.config a := rfl

@[simp] theorem State.read8_fst (a : Word) : (s.read8 a).1 = s.peek8 a := rfl
@[simp] theorem State.read8_snd (a : Word) : (s.read8 a).2 = s.afterRead a := rfl

theorem State.read16_fst (a : Word) : (s.read16 a).1 = word ((s.afterRead a).peek8 (a + 1)) (s.peek8 a) := rfl
theorem State.read16_snd (a : Word) : (s.read16 a).2 = (s.afterRead a).afterRead (a + 1) := rfl

@[simp] theorem State.write16_config (a w : Word) : (s.write16 a w).config = s.config := rfl
@[simp] theorem State.write16_status (a w : Word) : (s.write16 a w).status = s.status := rfl
@[simp] theorem State.write16_schedule (a w : Word) : (s.write16 a w).schedule = s.schedule := rfl
@[simp] theorem State.write16_callReturn (a w : Word) : (s.write16 a w).callReturn = s.callReturn := rfl
@[simp] theorem State.write16_cpu (a w : Word) : (s.write16 a w).cpu = s.cpu := rfl

@[simp] theorem State.read16_config (a : Word) : (s.read16 a).2.config = s.config := rfl
@[simp] theorem State.read16_status (a : Word) : (s.read16 a).2.status = s.status := rfl
@[simp] theorem State.read16_schedule (a : Word) : (s.read16 a).2.schedule = s.schedule := rfl
@[simp] theorem State.read16_callReturn (a : Word) : (s.read16 a).2.callReturn = s.callReturn := rfl
@[simp] theorem State.read16_cpu (a : Word) : (s.read16 a).2.cpu = s.cpu := rfl

@[simp] theorem State.push16_config (w : Word) : (s.push16 w).config = s.config := rfl
@[simp] theorem State.push16_status (w : Word) : (s.push16 w).status = s.status := rfl
@[simp] theorem State.push16_schedule (w : Word) : (s.push16 w).schedule = s.schedule := rfl
@[simp] theorem State.push16_callReturn (w : Word) : (s.push16 w).callReturn = s.callReturn := rfl
@[simp] theorem State.push16_a (w : Word) : (s.push16 w).cpu.a = s.cpu.a := rfl
@[simp] theorem State.push16_f (w : Word) : (s.push16 w).cpu.f = s.cpu.f := rfl
@[simp] theorem State.push16_b (w : Word) : (s.push16 w).cpu.b = s.cpu.b := rfl
@[simp] theorem State.push16_c (w : Word) : (s.push16 w).cpu.c = s.cpu.c := rfl
@[simp] theorem State.push16_d (w : Word) : (s.push16 w).cpu.d = s.cpu.d := rfl
@[simp] theorem State.push16_e (w : Word) : (s.push16 w).cpu.e = s.cpu.e := rfl
@[simp] theorem State.push16_h (w : Word) : (s.push16 w).cpu.h = s.cpu.h := rfl
@[simp] theorem State.push16_l (w : Word) : (s.push16 w).cpu.l = s.cpu.l := rfl
@[simp] theorem State.push16_sp (w : Word) : (s.push16 w).cpu.sp = s.cpu.sp - 2 := rfl
@[simp] theorem State.push16_pc (w : Word) : (s.push16 w).cpu.pc = s.cpu.pc := rfl
@[simp] theorem State.push16_i (w : Word) : (s.push16 w).cpu.i = s.cpu.i := rfl
@[simp] theorem State.push16_r (w : Word) : (s.push16 w).cpu.r = s.cpu.r := rfl
@[simp] theorem State.push16_iff1 (w : Word) : (s.push16 w).cpu.iff1 = s.cpu.iff1 := rfl
@[simp] theorem State.push16_iff2 (w : Word) : (s.push16 w).cpu.iff2 = s.cpu.iff2 := rfl
@[simp] theorem State.push16_eiPending (w : Word) : (s.push16 w).cpu.eiPending = s.cpu.eiPending := rfl
@[simp] theorem State.push16_shadow (w : Word) : (s.push16 w).cpu.shadow = s.cpu.shadow := rfl

@[simp] theorem State.pop16_config : s.pop16.2.config = s.config := rfl
@[simp] theorem State.pop16_status : s.pop16.2.status = s.status := rfl
@[simp] theorem State.pop16_schedule : s.pop16.2.schedule = s.schedule := rfl
@[simp] theorem State.pop16_callReturn : s.pop16.2.callReturn = s.callReturn := rfl
@[simp] theorem State.pop16_a : s.pop16.2.cpu.a = s.cpu.a := rfl
@[simp] theorem State.pop16_f : s.pop16.2.cpu.f = s.cpu.f := rfl
@[simp] theorem State.pop16_b : s.pop16.2.cpu.b = s.cpu.b := rfl
@[simp] theorem State.pop16_c : s.pop16.2.cpu.c = s.cpu.c := rfl
@[simp] theorem State.pop16_d : s.pop16.2.cpu.d = s.cpu.d := rfl
@[simp] theorem State.pop16_e : s.pop16.2.cpu.e = s.cpu.e := rfl
@[simp] theorem State.pop16_h : s.pop16.2.cpu.h = s.cpu.h := rfl
@[simp] theorem State.pop16_l : s.pop16.2.cpu.l = s.cpu.l := rfl
@[simp] theorem State.pop16_sp : s.pop16.2.cpu.sp = s.cpu.sp + 2 := rfl
@[simp] theorem State.pop16_pc : s.pop16.2.cpu.pc = s.cpu.pc := rfl
@[simp] theorem State.pop16_i : s.pop16.2.cpu.i = s.cpu.i := rfl
@[simp] theorem State.pop16_r : s.pop16.2.cpu.r = s.cpu.r := rfl
@[simp] theorem State.pop16_iff1 : s.pop16.2.cpu.iff1 = s.cpu.iff1 := rfl
@[simp] theorem State.pop16_iff2 : s.pop16.2.cpu.iff2 = s.cpu.iff2 := rfl
@[simp] theorem State.pop16_eiPending : s.pop16.2.cpu.eiPending = s.cpu.eiPending := rfl
@[simp] theorem State.pop16_shadow : s.pop16.2.cpu.shadow = s.cpu.shadow := rfl
theorem State.pop16_fst : s.pop16.1 = (s.read16 s.cpu.sp).1 := rfl
theorem State.pop16_bus : s.pop16.2.bus = (s.read16 s.cpu.sp).2.bus := rfl
theorem State.push16_bus (w : Word) : (s.push16 w).bus = (s.write16 (s.cpu.sp - 2) w).bus := rfl

/-! ## The deferred interrupt enable -/

@[simp] theorem State.finishEi_config (b : Bool) : (s.finishEi b).config = s.config := by cases b <;> rfl
@[simp] theorem State.finishEi_bus (b : Bool) : (s.finishEi b).bus = s.bus := by cases b <;> rfl
@[simp] theorem State.finishEi_status (b : Bool) : (s.finishEi b).status = s.status := by cases b <;> rfl
@[simp] theorem State.finishEi_schedule (b : Bool) : (s.finishEi b).schedule = s.schedule := by cases b <;> rfl
@[simp] theorem State.finishEi_callReturn (b : Bool) : (s.finishEi b).callReturn = s.callReturn := by cases b <;> rfl
@[simp] theorem State.finishEi_a (b : Bool) : (s.finishEi b).cpu.a = s.cpu.a := by cases b <;> rfl
@[simp] theorem State.finishEi_f (b : Bool) : (s.finishEi b).cpu.f = s.cpu.f := by cases b <;> rfl
@[simp] theorem State.finishEi_b (b : Bool) : (s.finishEi b).cpu.b = s.cpu.b := by cases b <;> rfl
@[simp] theorem State.finishEi_c (b : Bool) : (s.finishEi b).cpu.c = s.cpu.c := by cases b <;> rfl
@[simp] theorem State.finishEi_d (b : Bool) : (s.finishEi b).cpu.d = s.cpu.d := by cases b <;> rfl
@[simp] theorem State.finishEi_e (b : Bool) : (s.finishEi b).cpu.e = s.cpu.e := by cases b <;> rfl
@[simp] theorem State.finishEi_h (b : Bool) : (s.finishEi b).cpu.h = s.cpu.h := by cases b <;> rfl
@[simp] theorem State.finishEi_l (b : Bool) : (s.finishEi b).cpu.l = s.cpu.l := by cases b <;> rfl
@[simp] theorem State.finishEi_sp (b : Bool) : (s.finishEi b).cpu.sp = s.cpu.sp := by cases b <;> rfl
@[simp] theorem State.finishEi_pc (b : Bool) : (s.finishEi b).cpu.pc = s.cpu.pc := by cases b <;> rfl
@[simp] theorem State.finishEi_i (b : Bool) : (s.finishEi b).cpu.i = s.cpu.i := by cases b <;> rfl
@[simp] theorem State.finishEi_r (b : Bool) : (s.finishEi b).cpu.r = s.cpu.r := by cases b <;> rfl
@[simp] theorem State.finishEi_shadow (b : Bool) : (s.finishEi b).cpu.shadow = s.cpu.shadow := by cases b <;> rfl

@[simp] theorem State.finishEi_true_iff1 : (s.finishEi true).cpu.iff1 = true := rfl
@[simp] theorem State.finishEi_true_iff2 : (s.finishEi true).cpu.iff2 = true := rfl
@[simp] theorem State.finishEi_true_eiPending : (s.finishEi true).cpu.eiPending = false := rfl
@[simp] theorem State.finishEi_false : s.finishEi false = s := rfl

/-! ## Reading back a register -/

theorem State.reg8_setReg8 (r q : Reg8) (v : Byte) : (s.setReg8 r v).reg8 q = if q = r then v else s.reg8 q := by
  cases r <;> cases q <;> rfl

@[simp] theorem State.reg8_setReg8_same (r : Reg8) (v : Byte) : (s.setReg8 r v).reg8 r = v := by cases r <;> rfl

theorem State.reg8_setReg8_other {r q : Reg8} (v : Byte) (h : q ≠ r) : (s.setReg8 r v).reg8 q = s.reg8 q := by
  simp [State.reg8_setReg8, h]

theorem State.reg8_setPair16_other {p : Reg16} {q : Reg8} (w : Word) (h : q ∉ p.parts) :
    (s.setPair16 p w).reg8 q = s.reg8 q := by
  cases p <;> cases q <;> first | rfl | simp [Reg16.parts] at h

@[simp] theorem State.reg8_setPc (w : Word) (q : Reg8) : (s.setPc w).reg8 q = s.reg8 q := by cases q <;> rfl
@[simp] theorem State.reg8_setSp (w : Word) (q : Reg8) : (s.setSp w).reg8 q = s.reg8 q := by cases q <;> rfl
@[simp] theorem State.reg8_setIff (b : Bool) (q : Reg8) : (s.setIff b).reg8 q = s.reg8 q := by cases q <;> rfl
@[simp] theorem State.reg8_setEiPending (b : Bool) (q : Reg8) : (s.setEiPending b).reg8 q = s.reg8 q := by cases q <;> rfl
@[simp] theorem State.reg8_setF (f : Byte) (q : Reg8) : (s.setF f).reg8 q = s.reg8 q := by cases q <;> rfl
@[simp] theorem State.reg8_afterRead (a : Word) (q : Reg8) : (s.afterRead a).reg8 q = s.reg8 q := by cases q <;> rfl
@[simp] theorem State.reg8_write8 (a : Word) (v : Byte) (q : Reg8) : (s.write8 a v).reg8 q = s.reg8 q := by cases q <;> rfl
@[simp] theorem State.reg8_write16 (a w : Word) (q : Reg8) : (s.write16 a w).reg8 q = s.reg8 q := by cases q <;> rfl
@[simp] theorem State.reg8_push16 (w : Word) (q : Reg8) : (s.push16 w).reg8 q = s.reg8 q := by cases q <;> rfl
@[simp] theorem State.reg8_setFlag (fl : Flag) (b : Bool) (q : Reg8) : (s.setFlag fl b).reg8 q = s.reg8 q := by
  unfold State.setFlag; split <;> simp
@[simp] theorem State.reg8_finishEi (b : Bool) (q : Reg8) : (s.finishEi b).reg8 q = s.reg8 q := by
  cases b <;> cases q <;> rfl
@[simp] theorem State.reg8_pop16 (q : Reg8) : s.pop16.2.reg8 q = s.reg8 q := by cases q <;> rfl

@[simp] theorem State.pair16_setPc (w : Word) (p : Reg16) : (s.setPc w).pair16 p = s.pair16 p := by cases p <;> rfl
@[simp] theorem State.pair16_setIff (b : Bool) (p : Reg16) : (s.setIff b).pair16 p = s.pair16 p := by cases p <;> rfl
@[simp] theorem State.pair16_setEiPending (b : Bool) (p : Reg16) : (s.setEiPending b).pair16 p = s.pair16 p := by cases p <;> rfl
@[simp] theorem State.pair16_setF (f : Byte) (p : Reg16) : (s.setF f).pair16 p = s.pair16 p := by cases p <;> rfl
@[simp] theorem State.pair16_afterRead (a : Word) (p : Reg16) : (s.afterRead a).pair16 p = s.pair16 p := by cases p <;> rfl
@[simp] theorem State.pair16_write8 (a : Word) (v : Byte) (p : Reg16) : (s.write8 a v).pair16 p = s.pair16 p := by cases p <;> rfl
@[simp] theorem State.pair16_write16 (a w : Word) (p : Reg16) : (s.write16 a w).pair16 p = s.pair16 p := by cases p <;> rfl
@[simp] theorem State.pair16_setFlag (fl : Flag) (b : Bool) (p : Reg16) : (s.setFlag fl b).pair16 p = s.pair16 p := by
  unfold State.setFlag; split <;> simp
@[simp] theorem State.pair16_setReg8_a (v : Byte) (p : Reg16) : (s.setReg8 .a v).pair16 p = s.pair16 p := by
  cases p <;> rfl

@[simp] theorem State.setPair16_bc_sp (w : Word) : (s.setPair16 .bc w).cpu.sp = s.cpu.sp := rfl
@[simp] theorem State.setPair16_de_sp (w : Word) : (s.setPair16 .de w).cpu.sp = s.cpu.sp := rfl
@[simp] theorem State.setPair16_hl_sp (w : Word) : (s.setPair16 .hl w).cpu.sp = s.cpu.sp := rfl
theorem State.setPair16_sp (w : Word) : s.setPair16 .sp w = s.setSp w := rfl

/-! ## Reading the bus after a register update -/

/-- A bus read depends on the parameters and the bus alone. -/
theorem State.peek8_congr {s t : State} (hc : t.config = s.config) (hb : t.bus = s.bus) (a : Word) :
    t.peek8 a = s.peek8 a := by
  simp [State.peek8, hc, hb]

@[simp] theorem State.peek8_setPc (w : Word) (x : Word) : (s.setPc w).peek8 x = s.peek8 x := rfl
@[simp] theorem State.peek8_setSp (w : Word) (x : Word) : (s.setSp w).peek8 x = s.peek8 x := rfl
@[simp] theorem State.peek8_setIff (b : Bool) (x : Word) : (s.setIff b).peek8 x = s.peek8 x := rfl
@[simp] theorem State.peek8_setEiPending (b : Bool) (x : Word) : (s.setEiPending b).peek8 x = s.peek8 x := rfl
@[simp] theorem State.peek8_setF (f : Byte) (x : Word) : (s.setF f).peek8 x = s.peek8 x := rfl
@[simp] theorem State.peek8_setReg8 (r : Reg8) (v : Byte) (x : Word) : (s.setReg8 r v).peek8 x = s.peek8 x :=
  State.peek8_congr (by simp) (by simp) x
@[simp] theorem State.peek8_setPair16 (p : Reg16) (w : Word) (x : Word) : (s.setPair16 p w).peek8 x = s.peek8 x :=
  State.peek8_congr (by simp) (by simp) x
@[simp] theorem State.peek8_setFlag (fl : Flag) (b : Bool) (x : Word) : (s.setFlag fl b).peek8 x = s.peek8 x :=
  State.peek8_congr (by simp) (by simp) x
@[simp] theorem State.peek8_finishEi (b : Bool) (x : Word) : (s.finishEi b).peek8 x = s.peek8 x :=
  State.peek8_congr (by simp) (by simp) x

/-! ## F after an update that is no flag write -/

/-- F depends on the variant and the stored byte alone. -/
theorem State.regF_congr {s t : State} (hc : t.config = s.config) (hf : t.cpu.f = s.cpu.f) : t.regF = s.regF := by
  simp [State.regF, hc, hf]

theorem State.flag_congr {s t : State} (hc : t.config = s.config) (hf : t.cpu.f = s.cpu.f) (fl : Flag) :
    t.flag fl = s.flag fl := by
  simp [State.flag, State.regF, hc, hf]

@[simp] theorem State.regF_setPc (w : Word) : (s.setPc w).regF = s.regF := State.regF_congr (by simp) (by simp)
@[simp] theorem State.flag_setPc (w : Word) (g : Flag) : (s.setPc w).flag g = s.flag g :=
  State.flag_congr (by simp) (by simp) g
@[simp] theorem State.regF_setSp (w : Word) : (s.setSp w).regF = s.regF := State.regF_congr (by simp) (by simp)
@[simp] theorem State.flag_setSp (w : Word) (g : Flag) : (s.setSp w).flag g = s.flag g :=
  State.flag_congr (by simp) (by simp) g
@[simp] theorem State.regF_setIff (b : Bool) : (s.setIff b).regF = s.regF := State.regF_congr (by simp) (by simp)
@[simp] theorem State.flag_setIff (b : Bool) (g : Flag) : (s.setIff b).flag g = s.flag g :=
  State.flag_congr (by simp) (by simp) g
@[simp] theorem State.regF_setEiPending (b : Bool) : (s.setEiPending b).regF = s.regF := State.regF_congr (by simp) (by simp)
@[simp] theorem State.flag_setEiPending (b : Bool) (g : Flag) : (s.setEiPending b).flag g = s.flag g :=
  State.flag_congr (by simp) (by simp) g
@[simp] theorem State.regF_setReg8 (r : Reg8) (v : Byte) : (s.setReg8 r v).regF = s.regF := State.regF_congr (by simp) (by simp)
@[simp] theorem State.flag_setReg8 (r : Reg8) (v : Byte) (g : Flag) : (s.setReg8 r v).flag g = s.flag g :=
  State.flag_congr (by simp) (by simp) g
@[simp] theorem State.regF_setPair16 (p : Reg16) (w : Word) : (s.setPair16 p w).regF = s.regF := State.regF_congr (by simp) (by simp)
@[simp] theorem State.flag_setPair16 (p : Reg16) (w : Word) (g : Flag) : (s.setPair16 p w).flag g = s.flag g :=
  State.flag_congr (by simp) (by simp) g
@[simp] theorem State.regF_finishEi (b : Bool) : (s.finishEi b).regF = s.regF := State.regF_congr (by simp) (by simp)
@[simp] theorem State.flag_finishEi (b : Bool) (g : Flag) : (s.finishEi b).flag g = s.flag g :=
  State.flag_congr (by simp) (by simp) g
@[simp] theorem State.regF_afterRead (a : Word) : (s.afterRead a).regF = s.regF := State.regF_congr (by simp) (by simp)
@[simp] theorem State.flag_afterRead (a : Word) (g : Flag) : (s.afterRead a).flag g = s.flag g :=
  State.flag_congr (by simp) (by simp) g
@[simp] theorem State.regF_write8 (a : Word) (v : Byte) : (s.write8 a v).regF = s.regF := State.regF_congr (by simp) (by simp)
@[simp] theorem State.flag_write8 (a : Word) (v : Byte) (g : Flag) : (s.write8 a v).flag g = s.flag g :=
  State.flag_congr (by simp) (by simp) g
@[simp] theorem State.regF_write16 (a w : Word) : (s.write16 a w).regF = s.regF := State.regF_congr (by simp) (by simp)
@[simp] theorem State.flag_write16 (a w : Word) (g : Flag) : (s.write16 a w).flag g = s.flag g :=
  State.flag_congr (by simp) (by simp) g
@[simp] theorem State.regF_push16 (w : Word) : (s.push16 w).regF = s.regF := State.regF_congr (by simp) (by simp)
@[simp] theorem State.flag_push16 (w : Word) (g : Flag) : (s.push16 w).flag g = s.flag g :=
  State.flag_congr (by simp) (by simp) g
@[simp] theorem State.regF_read16 (a : Word) : (s.read16 a).2.regF = s.regF := rfl
@[simp] theorem State.flag_read16 (a : Word) (g : Flag) : (s.read16 a).2.flag g = s.flag g := rfl
@[simp] theorem State.regF_pop16 : s.pop16.2.regF = s.regF := rfl
@[simp] theorem State.flag_pop16 (g : Flag) : s.pop16.2.flag g = s.flag g := rfl
@[simp] theorem State.read16_bus_mem (a : Word) : (s.read16 a).2.bus.mem = s.bus.mem := by
  simp only [State.read16_snd, State.afterRead_bus, Bus.afterRead]; repeat' split
  all_goals rfl
@[simp] theorem State.read16_bus_apu (a : Word) : (s.read16 a).2.bus.apu = s.bus.apu := by
  simp only [State.read16_snd, State.afterRead_bus, Bus.afterRead]; repeat' split
  all_goals rfl
@[simp] theorem State.pop16_bus_mem : s.pop16.2.bus.mem = s.bus.mem := State.read16_bus_mem s s.cpu.sp
@[simp] theorem State.pop16_bus_apu : s.pop16.2.bus.apu = s.bus.apu := State.read16_bus_apu s s.cpu.sp

end Sys2Proof.Machine
end

