-- ==== Sys2Proof/Laws/Bus.lean ====
section
/-! SUPPORT. What a bus access can do: which bytes a write changes, what a read leaves, and that both keep the bus
invariant. -/

namespace Sys2Proof.Machine

theorem toNat_inj_word {x a : Word} : x.toNat = a.toNat ↔ x = a := ⟨BitVec.eq_of_toNat_eq, fun h => by rw [h]⟩

/-- An address that no platform-supplied peripheral owns. -/
abbrev notPlatform (c : Config) (a : Word) : Prop := ∀ id, ownerOf c a ≠ some (.platform id)

/-- A read has no side effect but on a platform-supplied peripheral (`20_memory.md` R64). -/
theorem Bus.afterRead_of_notPlatform {c : Config} {a : Word} (b : Bus) (h : notPlatform c a) : b.afterRead c a = b := by
  unfold Bus.afterRead
  split
  case h_5 id hid => exact absurd hid (h id)
  all_goals rfl

theorem State.afterRead_of_notPlatform {s : State} {a : Word} (h : notPlatform s.config a) : s.afterRead a = s := by
  simp [State.afterRead, Bus.afterRead_of_notPlatform _ h]

@[simp] theorem Bus.afterRead_mem (c : Config) (b : Bus) (a : Word) : (b.afterRead c a).mem = b.mem := by
  unfold Bus.afterRead; split <;> rfl

@[simp] theorem Bus.afterRead_apu (c : Config) (b : Bus) (a : Word) : (b.afterRead c a).apu = b.apu := by
  unfold Bus.afterRead; split <;> rfl

/-- The history of a peripheral that does not own the address read is as before. -/
theorem Bus.history_afterRead {c : Config} (b : Bus) (a : Word) {id : Nat} (h : ownerOf c a ≠ some (.platform id)) :
    (b.afterRead c a).history id = b.history id := by
  unfold Bus.afterRead
  split
  case h_5 k hk =>
    have : k ≠ id := fun e => h (e ▸ hk)
    simp [Bus.history, this]
  all_goals rfl

/-- After a read, every byte reads as before but those of the platform-supplied peripheral that was read. -/
theorem Bus.peek8_afterRead {c : Config} (b : Bus) (a x : Word)
    (h : ∀ id, ownerOf c a = some (.platform id) → ownerOf c x ≠ some (.platform id)) :
    (b.afterRead c a).peek8 c x = b.peek8 c x := by
  unfold Bus.peek8
  split
  case h_5 id hid => rw [Bus.history_afterRead b a fun ha => h id ha hid]
  all_goals simp

/-- The history of a peripheral that does not own the address written is as before. -/
theorem Bus.history_write8 {c : Config} (b : Bus) (a : Word) (v : Byte) {id : Nat}
    (h : ownerOf c a ≠ some (.platform id)) : (b.write8 c a v).history id = b.history id := by
  unfold Bus.write8
  split
  case h_5 k hk =>
    have : k ≠ id := fun e => h (e ▸ hk)
    simp [Bus.history, this]
  all_goals rfl

/-- After a write, every other byte reads as before but those of the platform-supplied peripheral that was written. -/
theorem Bus.peek8_write8_other {c : Config} (b : Bus) {a x : Word} (v : Byte)
    (hx : x ≠ a) (h : ∀ id, ownerOf c a = some (.platform id) → ownerOf c x ≠ some (.platform id)) :
    (b.write8 c a v).peek8 c x = b.peek8 c x := by
  have hmem : (b.write8 c a v).mem.read x.toNat = b.mem.read x.toNat := by
    unfold Bus.write8; split <;> simp [Memory.read_write, toNat_inj_word, hx]
  have hapu : (b.write8 c a v).apu.read x = b.apu.read x := by
    unfold Bus.write8; split <;> simp [Apu.read_write, hx]
  unfold Bus.peek8
  split
  case h_5 id hid => rw [Bus.history_write8 b a v fun ha => h id ha hid]
  all_goals first | rfl | exact hmem | exact hapu

/-- A RAM byte and a shadow byte read back as written (`20_memory.md` R69, `60_exceptions.md` R288). -/
theorem Bus.peek8_write8_same {c : Config} (b : Bus) {a : Word} (v : Byte)
    (h : ownerOf c a = some .ram ∨ ownerOf c a = some .apu) : (b.write8 c a v).peek8 c a = v := by
  rcases h with h | h <;> simp [Bus.peek8, Bus.write8, h, Memory.read_write, Apu.read_write]

/-- A write to an unowned address or to a ROM does nothing (`20_memory.md` R63, R79). -/
theorem Bus.write8_dropped {c : Config} (b : Bus) {a : Word} (v : Byte)
    (h : ownerOf c a = none ∨ ownerOf c a = some .rom) : b.write8 c a v = b := by
  rcases h with h | h <;> simp [Bus.write8, h]

/-- The APU changes only by a write to an address it owns (`70_reset_and_hazards.md` R325). -/
theorem Bus.apu_write8 {c : Config} (b : Bus) {a : Word} (v : Byte) (h : ownerOf c a ≠ some .apu) :
    (b.write8 c a v).apu = b.apu := by
  unfold Bus.write8
  split
  case h_4 ha => exact absurd ha h
  all_goals rfl

/-- A registration that owns an address is in the list. -/
theorem ownerOf_mem {c : Config} {a : Word} {d : Device} (h : ownerOf c a = some d) :
    ∃ x ∈ c.peripherals, owns x a = true ∧ x.device = d := by
  unfold ownerOf at h
  cases hf : c.peripherals.find? (fun x => owns x a) with
  | none => simp [hf] at h
  | some x =>
    have hd : x.device = d := by simpa [hf] using h
    exact ⟨x, List.mem_of_find?_eq_some hf, by simpa using List.find?_some hf, hd⟩

/-- On a legal bus map the APU owns addresses in its window only (`60_exceptions.md` R270). -/
theorem apu_window {c : Config} (hc : c.wf) {a : Word} (h : ownerOf c a = some .apu) :
    0xFF10 ≤ a.toNat ∧ a.toNat ≤ 0xFF3F := by
  obtain ⟨x, hx, ho, hd⟩ := ownerOf_mem h
  have hw := hc.1 x hx
  simp only [Registration.wf, hd, Bool.and_eq_true, beq_iff_eq, decide_eq_true_eq] at hw
  simp only [owns, Bool.and_eq_true, decide_eq_true_eq, hw.2.1, hw.2.2, BitVec.le_def] at ho
  simpa using ho

theorem BusInv.afterRead {c : Config} {b : Bus} (h : BusInv c b) (a : Word) : BusInv c (b.afterRead c a) :=
  ⟨by simpa using h.mem_wf, by simpa using h.mem_within, by simpa using h.mem_owned, by simpa using h.shadow_wf,
    by simpa using h.shadow_within, by simpa using h.length1, by simpa using h.length2⟩

theorem BusInv.write8 {c : Config} (hc : c.wf) {b : Bus} (h : BusInv c b) (a : Word) (v : Byte) :
    BusInv c (b.write8 c a v) := by
  unfold Bus.write8
  split
  case h_2 ha =>
    refine ⟨Memory.wf_write h.mem_wf _ _, fun x hx => ?_, fun x hx => ?_, h.shadow_wf, h.shadow_within, h.length1,
      h.length2⟩
    · rcases Memory.mem_write hx with rfl | hx
      · have := a.isLt; exact ⟨Nat.zero_le _, by dsimp only; omega⟩
      · exact h.mem_within x hx
    · rcases Memory.mem_write hx with rfl | hx
      · exact .inl (by simpa using ha)
      · exact h.mem_owned x hx
  case h_4 ha =>
    have hl := Apu.dispatch_length (u := b.apu.setShadow a v) a v h.length1 h.length2
    refine ⟨h.mem_wf, h.mem_within, h.mem_owned, ?_, fun x hx => ?_, hl.1, hl.2⟩
    · simpa using Memory.wf_write h.shadow_wf _ _
    · simp only [Apu.write_shadow] at hx
      rcases Memory.mem_write hx with rfl | hx
      · exact apu_window hc ha
      · exact h.shadow_within x hx
  all_goals exact ⟨h.mem_wf, h.mem_within, h.mem_owned, h.shadow_wf, h.shadow_within, h.length1, h.length2⟩

theorem BusInv.clock {c : Config} {b : Bus} (h : BusInv c b) : BusInv c { b with apu := b.apu.clock256hz } := by
  have hl := Apu.clock256hz_length h.length1 h.length2
  exact ⟨h.mem_wf, h.mem_within, h.mem_owned, by simpa using h.shadow_wf, by simpa using h.shadow_within, hl.1, hl.2⟩

end Sys2Proof.Machine
end

