-- ==== Sys2Proof/Laws/Flags.lean ====
section
/-! SUPPORT. F and its flags: a flag write sets one bit of F and no other (`10_state.md` R26, R27). -/

namespace Sys2Proof.Machine

/-- The variant has the flag. -/
def hasFlag (v : Variant) (fl : Flag) : Bool := (flagBit v fl).isSome

/-- Which bits of F can be 1 when read. -/
theorem getBit_maskF (v : Variant) (f : Byte) (k : Nat) :
    getBit (maskF v f) k = (getBit f k && (v == .z80 || decide (4 ≤ k))) := by
  cases v
  · simp [maskF]
  · by_cases hk : k < 8
    · have h : ∀ k < 8, getBit (maskF .lr35902 f) k = (getBit f k && (Variant.lr35902 == .z80 || decide (4 ≤ k))) := by
        revert f; decide
      exact h k hk
    · simp [getBit_eight_le, Nat.le_of_not_lt hk]

@[simp] theorem maskF_maskF (v : Variant) (f : Byte) : maskF v (maskF v f) = maskF v f := by
  cases v
  · rfl
  · revert f; decide

/-- On the LR35902 the low nibble of F reads zero (`10_state.md` R26). -/
theorem maskF_lr_low (f : Byte) : maskF .lr35902 f &&& 0x0F#8 = 0#8 := by revert f; decide

@[simp] theorem State.regF_setF (s : State) (f : Byte) : (s.setF f).regF = maskF s.config.variant f := by
  simp [State.regF]

/-- Two flags of one variant are different bits. -/
theorem flagBit_injective {v : Variant} {fl g : Flag} {k : Nat} (h : flagBit v fl = some k) (hg : flagBit v g = some k) :
    fl = g := by
  cases v <;> cases fl <;> cases g <;> simp_all [flagBit] <;> omega

/-- A flag's bit is not hard-wired. -/
theorem flagBit_range {v : Variant} {fl : Flag} {k : Nat} (h : flagBit v fl = some k) :
    k < 8 ∧ (v == .z80 || decide (4 ≤ k)) = true := by
  cases v <;> cases fl <;> simp_all [flagBit] <;> subst h <;> decide

/-- Bit by bit, what F reads after a flag write. -/
theorem State.getBit_regF_setFlag (s : State) (fl : Flag) (b : Bool) (j : Nat) :
    getBit (s.setFlag fl b).regF j = if flagBit s.config.variant fl = some j then b else getBit s.regF j := by
  unfold State.setFlag
  split
  · rename_i k hk
    obtain ⟨h8, hw⟩ := flagBit_range hk
    rw [State.regF_setF, getBit_maskF, getBit_setBit, hk]
    by_cases hj : j = k
    · subst hj; simp only [h8, and_self, if_true, hw, Bool.and_true]
    · have hne : ¬ (some k = some j) := fun h => hj (Option.some.inj h).symm
      simp only [hj, false_and, if_false, hne, State.regF, getBit_maskF, Bool.and_assoc, Bool.and_self]
  · rename_i hk; simp [hk]

/-- A flag write sets its own flag, if the variant has it, and no other. -/
theorem State.flag_setFlag (s : State) (fl g : Flag) (b : Bool) :
    (s.setFlag fl b).flag g = if g = fl then b && hasFlag s.config.variant fl else s.flag g := by
  unfold State.flag
  rw [State.setFlag_config]
  cases hg : flagBit s.config.variant g with
  | none =>
    by_cases h : g = fl
    · subst h; simp [hasFlag, hg]
    · simp [h]
  | some k =>
    simp only [State.getBit_regF_setFlag]
    by_cases h : g = fl
    · subst h; simp [hasFlag, hg]
    · have : flagBit s.config.variant fl ≠ some k := fun hf => h (flagBit_injective hg hf)
      simp [h, this]

@[simp] theorem State.flag_setFlag_same (s : State) (fl : Flag) (b : Bool) :
    (s.setFlag fl b).flag fl = (b && hasFlag s.config.variant fl) := by
  simp [State.flag_setFlag]

theorem State.flag_setFlag_other (s : State) {fl g : Flag} (b : Bool) (h : g ≠ fl) :
    (s.setFlag fl b).flag g = s.flag g := by
  simp [State.flag_setFlag, h]

@[simp] theorem hasFlag_z (v : Variant) : hasFlag v .z = true := by cases v <;> rfl
@[simp] theorem hasFlag_n (v : Variant) : hasFlag v .n = true := by cases v <;> rfl
@[simp] theorem hasFlag_h (v : Variant) : hasFlag v .h = true := by cases v <;> rfl
@[simp] theorem hasFlag_c (v : Variant) : hasFlag v .c = true := by cases v <;> rfl
@[simp] theorem hasFlag_s (v : Variant) : hasFlag v .s = (v == .z80) := by cases v <;> rfl
@[simp] theorem hasFlag_pv (v : Variant) : hasFlag v .pv = (v == .z80) := by cases v <;> rfl

/-- A flag write keeps F as stored equal to F as read. -/
theorem State.setFlag_f_masked (s : State) (fl : Flag) (b : Bool) (h : s.cpu.f = maskF s.config.variant s.cpu.f) :
    (s.setFlag fl b).cpu.f = maskF s.config.variant (s.setFlag fl b).cpu.f := by
  unfold State.setFlag
  split
  · simp
  · exact h

/-- What a flag function may do to a state: F alone changes, and stays masked if it was. -/
structure FlagsOnly (s t : State) : Prop where
  config : t.config = s.config
  bus : t.bus = s.bus
  status : t.status = s.status
  schedule : t.schedule = s.schedule
  callReturn : t.callReturn = s.callReturn
  cpu : t.cpu = { s.cpu with f := t.cpu.f }
  masked : s.cpu.f = maskF s.config.variant s.cpu.f → t.cpu.f = maskF s.config.variant t.cpu.f

theorem FlagsOnly.refl (s : State) : FlagsOnly s s := ⟨rfl, rfl, rfl, rfl, rfl, rfl, id⟩

theorem FlagsOnly.setFlag {s t : State} (h : FlagsOnly s t) (fl : Flag) (b : Bool) : FlagsOnly s (t.setFlag fl b) := by
  refine ⟨by simp [h.config], by simp [h.bus], by simp [h.status], by simp [h.schedule], by simp [h.callReturn], ?_, ?_⟩
  · have : (t.setFlag fl b).cpu = { t.cpu with f := (t.setFlag fl b).cpu.f } := by
      unfold State.setFlag; split <;> rfl
    rw [this, h.cpu]
  · intro hs
    have := h.masked hs
    rw [← h.config] at this ⊢
    exact State.setFlag_f_masked t fl b this

theorem inc8Flags_only (v : Byte) (s : State) : FlagsOnly s (inc8Flags v s) := by
  unfold inc8Flags; repeat apply FlagsOnly.setFlag
  exact FlagsOnly.refl s

theorem dec8Flags_only (v : Byte) (s : State) : FlagsOnly s (dec8Flags v s) := by
  unfold dec8Flags; repeat apply FlagsOnly.setFlag
  exact FlagsOnly.refl s

theorem add8Flags_only (a b : Byte) (s : State) : FlagsOnly s (add8Flags a b s) := by
  unfold add8Flags; repeat apply FlagsOnly.setFlag
  exact FlagsOnly.refl s

theorem addHlFlags_only (a b : Word) (s : State) : FlagsOnly s (addHlFlags a b s) := by
  unfold addHlFlags; repeat apply FlagsOnly.setFlag
  exact FlagsOnly.refl s

theorem spAddFlags_only (sp : Word) (e : Byte) (s : State) : FlagsOnly s (spAddFlags sp e s) := by
  unfold spAddFlags; repeat apply FlagsOnly.setFlag
  exact FlagsOnly.refl s

theorem swapFlags_only (r : Byte) (s : State) : FlagsOnly s (swapFlags r s) := by
  unfold swapFlags; repeat apply FlagsOnly.setFlag
  exact FlagsOnly.refl s

/-- The flags after `inc8(v)`. -/
theorem inc8Flags_flag (v : Byte) (s : State) (fl : Flag) : (inc8Flags v s).flag fl =
    match fl with
    | .z => v + 1 == 0
    | .n => false
    | .h => (v + 1).extractLsb' 0 4 == 0x0#4
    | .c => s.flag .c
    | .s => (v + 1).getLsbD 7 && (s.config.variant == .z80)
    | .pv => v == 0x7F && (s.config.variant == .z80) := by
  cases fl <;> simp [inc8Flags, State.flag_setFlag]

/-- inc8Flags writes its own flags only. -/
theorem inc8Flags_keeps (v : Byte) (s : State) (k : Nat)
    (h : ∀ fl ∈ [Flag.z, .n, .h, .s, .pv], flagBit s.config.variant fl ≠ some k) :
    getBit (inc8Flags v s).regF k = getBit s.regF k := by
  simp only [List.forall_mem_cons] at h
  simp only [inc8Flags, State.getBit_regF_setFlag, State.setFlag_config, h, if_false]

/-- The flags after `dec8(v)`. -/
theorem dec8Flags_flag (v : Byte) (s : State) (fl : Flag) : (dec8Flags v s).flag fl =
    match fl with
    | .z => v - 1 == 0
    | .n => true
    | .h => (v - 1).extractLsb' 0 4 == 0xF#4
    | .c => s.flag .c
    | .s => (v - 1).getLsbD 7 && (s.config.variant == .z80)
    | .pv => v == 0x80 && (s.config.variant == .z80) := by
  cases fl <;> simp [dec8Flags, State.flag_setFlag]

/-- dec8Flags writes its own flags only. -/
theorem dec8Flags_keeps (v : Byte) (s : State) (k : Nat)
    (h : ∀ fl ∈ [Flag.z, .n, .h, .s, .pv], flagBit s.config.variant fl ≠ some k) :
    getBit (dec8Flags v s).regF k = getBit s.regF k := by
  simp only [List.forall_mem_cons] at h
  simp only [dec8Flags, State.getBit_regF_setFlag, State.setFlag_config, h, if_false]

/-- The flags after `add8(a, b)`. -/
theorem add8Flags_flag (a b : Byte) (s : State) (fl : Flag) : (add8Flags a b s).flag fl =
    match fl with
    | .z => a + b == 0
    | .n => false
    | .h => decide (a.toNat % 16 + b.toNat % 16 > 0x0F)
    | .c => decide (a.toNat + b.toNat > 0xFF)
    | .s => (a + b).getLsbD 7 && (s.config.variant == .z80)
    | .pv => a.getLsbD 7 == b.getLsbD 7 && (a + b).getLsbD 7 != a.getLsbD 7 && (s.config.variant == .z80) := by
  cases fl <;> simp [add8Flags, State.flag_setFlag]

/-- add8Flags writes its own flags only. -/
theorem add8Flags_keeps (a b : Byte) (s : State) (k : Nat)
    (h : ∀ fl ∈ [Flag.z, .n, .h, .c, .s, .pv], flagBit s.config.variant fl ≠ some k) :
    getBit (add8Flags a b s).regF k = getBit s.regF k := by
  simp only [List.forall_mem_cons] at h
  simp only [add8Flags, State.getBit_regF_setFlag, State.setFlag_config, h, if_false]

/-- The flags after `ADD HL,rr`. -/
theorem addHlFlags_flag (a b : Word) (s : State) (fl : Flag) : (addHlFlags a b s).flag fl =
    match fl with
    | .n => false
    | .h => decide (a.toNat % 0x1000 + b.toNat % 0x1000 > 0x0FFF)
    | .c => decide (a.toNat + b.toNat > 0xFFFF)
    | .z => s.flag .z
    | .s => s.flag .s
    | .pv => s.flag .pv := by
  cases fl <;> simp [addHlFlags, State.flag_setFlag]

/-- addHlFlags writes its own flags only. -/
theorem addHlFlags_keeps (a b : Word) (s : State) (k : Nat)
    (h : ∀ fl ∈ [Flag.n, .h, .c], flagBit s.config.variant fl ≠ some k) :
    getBit (addHlFlags a b s).regF k = getBit s.regF k := by
  simp only [List.forall_mem_cons] at h
  simp only [addHlFlags, State.getBit_regF_setFlag, State.setFlag_config, h, if_false]

/-- The flags after `spadd(sp, e)`. -/
theorem spAddFlags_flag (sp : Word) (e : Byte) (s : State) (fl : Flag) : (spAddFlags sp e s).flag fl =
    match fl with
    | .z => false
    | .n => false
    | .h => decide (sp.toNat % 16 + e.toNat % 16 > 0x0F)
    | .c => decide (sp.toNat % 0x100 + e.toNat > 0xFF)
    | .s => s.flag .s
    | .pv => s.flag .pv := by
  cases fl <;> simp [spAddFlags, State.flag_setFlag]

/-- spAddFlags writes its own flags only. -/
theorem spAddFlags_keeps (sp : Word) (e : Byte) (s : State) (k : Nat)
    (h : ∀ fl ∈ [Flag.z, .n, .h, .c], flagBit s.config.variant fl ≠ some k) :
    getBit (spAddFlags sp e s).regF k = getBit s.regF k := by
  simp only [List.forall_mem_cons] at h
  simp only [spAddFlags, State.getBit_regF_setFlag, State.setFlag_config, h, if_false]

/-- The flags after `SWAP`. -/
theorem swapFlags_flag (r : Byte) (s : State) (fl : Flag) : (swapFlags r s).flag fl =
    match fl with
    | .z => r == 0
    | .n => false
    | .h => false
    | .c => false
    | .s => s.flag .s
    | .pv => s.flag .pv := by
  cases fl <;> simp [swapFlags, State.flag_setFlag]

/-- swapFlags writes its own flags only. -/
theorem swapFlags_keeps (r : Byte) (s : State) (k : Nat)
    (h : ∀ fl ∈ [Flag.z, .n, .h, .c], flagBit s.config.variant fl ≠ some k) :
    getBit (swapFlags r s).regF k = getBit s.regF k := by
  simp only [List.forall_mem_cons] at h
  simp only [swapFlags, State.getBit_regF_setFlag, State.setFlag_config, h, if_false]

/-- The consequences of `FlagsOnly` that statements about the rest of the state use. -/
theorem FlagsOnly.reg8 {s t : State} (h : FlagsOnly s t) (r : Reg8) : t.reg8 r = s.reg8 r := by
  unfold State.reg8; rw [h.cpu]

theorem FlagsOnly.pair16 {s t : State} (h : FlagsOnly s t) (p : Reg16) : t.pair16 p = s.pair16 p := by
  unfold State.pair16; rw [h.cpu]

theorem FlagsOnly.peek8 {s t : State} (h : FlagsOnly s t) (a : Word) : t.peek8 a = s.peek8 a :=
  State.peek8_congr h.config h.bus a

end Sys2Proof.Machine
end

