-- ==== Sys2Proof/Laws/Cpu.lean ====
section
/-! SUPPORT. What a CPU step and a turn can do, said once. -/

namespace Sys2Proof.Machine

/-- Fetching changes nothing but the bus, and that only by reads. -/
theorem readBytes_bus_ind {P : Bus → Prop} {c : Config} (hP : ∀ b a, P b → P (b.afterRead c a)) (n : Nat) (a : Word)
    (s : State) (hc : s.config = c) (h : P s.bus) : P (readBytes n a s).2.bus := by
  induction n generalizing a s with
  | zero => exact h
  | succ n ih => exact ih (a + 1) (s.afterRead a) hc (by simpa [hc] using hP s.bus a h)

/-- What reading bytes leaves: all but the bus. -/
theorem readBytes_rest (n : Nat) (a : Word) (s : State) :
    (readBytes n a s).2 = { s with bus := (readBytes n a s).2.bus } := by
  induction n generalizing a s with
  | zero => rfl
  | succ n ih => exact ih (a + 1) (s.afterRead a)

theorem fetch_rest (s : State) : (fetch s).2 = { s with bus := (fetch s).2.bus } :=
  readBytes_rest _ _ (s.afterRead s.cpu.pc)

theorem fetch_bus_ind {P : Bus → Prop} {s : State} (hP : ∀ b a, P b → P (b.afterRead s.config a)) (h : P s.bus) :
    P (fetch s).2.bus :=
  readBytes_bus_ind hP _ _ (s.afterRead s.cpu.pc) rfl (hP _ _ h)

@[simp] theorem fetch_config (s : State) : (fetch s).2.config = s.config := by rw [fetch_rest]
@[simp] theorem fetch_cpu (s : State) : (fetch s).2.cpu = s.cpu := by rw [fetch_rest]
@[simp] theorem fetch_status (s : State) : (fetch s).2.status = s.status := by rw [fetch_rest]
@[simp] theorem fetch_schedule (s : State) : (fetch s).2.schedule = s.schedule := by rw [fetch_rest]
@[simp] theorem fetch_callReturn (s : State) : (fetch s).2.callReturn = s.callReturn := by rw [fetch_rest]

theorem readBytes_length (n : Nat) (a : Word) (s : State) : (readBytes n a s).1.length = n := by
  induction n generalizing a s with
  | zero => rfl
  | succ n ih => simp only [readBytes, List.length_cons, ih]

/-- Reading bytes depends on the parameters and the bus alone. -/
theorem readBytes_congr (n : Nat) (a : Word) {s t : State} (hc : t.config = s.config) (hb : t.bus = s.bus) :
    (readBytes n a t).1 = (readBytes n a s).1 ∧ (readBytes n a t).2.bus = (readBytes n a s).2.bus := by
  induction n generalizing a s t with
  | zero => exact ⟨rfl, hb⟩
  | succ n ih =>
    have hp : t.peek8 a = s.peek8 a := State.peek8_congr hc hb a
    have := ih (a + 1) (s := s.afterRead a) (t := t.afterRead a) hc (by simp [State.afterRead, hc, hb])
    exact ⟨by simp only [readBytes, State.read8, hp, this.1], this.2⟩

/-- The bytes of a fetch: the byte at PC and as many more as it calls for. -/
theorem fetch_bytes (s : State) : ∃ bs, (fetch s).1 = s.peek8 s.cpu.pc :: bs ∧
    bs.length = fetchLength s.config.variant (s.peek8 s.cpu.pc) - 1 :=
  ⟨_, rfl, readBytes_length _ _ _⟩

/-- A fetch depends on the parameters, the bus and PC alone. -/
theorem fetch_congr {s t : State} (hc : t.config = s.config) (hb : t.bus = s.bus) (hp : t.cpu.pc = s.cpu.pc) :
    (fetch t).1 = (fetch s).1 ∧ (fetch t).2.bus = (fetch s).2.bus := by
  have hp8 : t.peek8 s.cpu.pc = s.peek8 s.cpu.pc := State.peek8_congr hc hb _
  have hs : (s.afterRead s.cpu.pc).config = s.config := rfl
  have ht : (t.afterRead s.cpu.pc).config = s.config := hc
  have := readBytes_congr (fetchLength s.config.variant (s.peek8 s.cpu.pc) - 1) (s.cpu.pc + 1)
    (s := s.afterRead s.cpu.pc) (t := t.afterRead s.cpu.pc) hc (by simp [State.afterRead, hc, hb])
  simp only [fetch, State.read8, hp, hp8, hs, ht, this.1, this.2, and_self]

/-- The state an instruction is executed in: its bytes fetched, PC past them. -/
def execState (s : State) : State := (fetch s).2.setPc (s.cpu.pc + BitVec.ofNat 16 (fetch s).1.length)

/-- A CPU step whose bytes decode. -/
theorem cpuStep_of_decode {s : State} {i : Instr} {rest : List Byte}
    (h : decode s.config.variant (fetch s).1 = .ok (i, rest)) :
    cpuStep s = finishStep s.cpu.eiPending (exec i (execState s)) := by
  simp [cpuStep, execState, h]

/-- A CPU step whose bytes do not decode (`60_exceptions.md` R251). -/
theorem cpuStep_of_reject {s : State} {e : Reject} (h : decode s.config.variant (fetch s).1 = .error e) :
    cpuStep s = .fault (.decodeError ((fetch s).2.takeDecodeError s.cpu.eiPending (fetch s).1)) := by
  simp [cpuStep, h]

/-- A CPU step that answers a next state ran the instruction its bytes decode to. -/
theorem cpuStep_next {s t : State} (h : cpuStep s = .next t) :
    ∃ i rest u, decode s.config.variant (fetch s).1 = .ok (i, rest) ∧ exec i (execState s) = .next u ∧
      t = u.finishEi s.cpu.eiPending := by
  cases hd : decode s.config.variant (fetch s).1 with
  | error e => rw [cpuStep_of_reject hd] at h; cases h
  | ok p =>
    obtain ⟨i, rest⟩ := p
    rw [cpuStep_of_decode hd] at h
    cases he : exec i (execState s) with
    | next u => rw [he] at h; exact ⟨i, rest, u, rfl, he, by simpa [finishStep] using h.symm⟩
    | fault r => rw [he] at h; cases h
    | refused r => rw [he] at h; cases h

/-- The CPU's turn when the schedule is empty. -/
theorem step_of_idle {s : State} (hr : s.status = .running) (hc : s.callReturn = none) (hs : s.schedule = []) :
    step s = cpuStep s := by
  simp [step, takeTurn, hr, hc, hs]

/-- The CPU's turn by the schedule: the CPU steps from the state with that entry taken off. -/
theorem step_of_scheduled {s : State} {rest : List Turn} (hr : s.status = .running) (hc : s.callReturn = none)
    (hs : s.schedule = .cpu :: rest) : step s = cpuStep { s with schedule := rest } := by
  simp [step, takeTurn, hr, hc, hs]

/-- The CPU's turn inside a host `call`. -/
theorem step_of_inCall {s : State} {pc0 : Word} (hr : s.status = .running) (hc : s.callReturn = some pc0)
    (hp : s.cpu.pc ≠ pc0) : step s = cpuStep s := by
  simp [step, takeTurn, hr, hc, hp]

/-- The host's turn. -/
theorem step_of_host {s : State} {act : HostAction} {rest : List Turn} (hr : s.status = .running)
    (hc : s.callReturn = none) (hs : s.schedule = .host act :: rest) :
    step s = .next ({ s with schedule := rest }.perform act) := by
  simp [step, takeTurn, hr, hc, hs]

/-- What a step that answers a next state can be: the end of a host call, a CPU step, or a host action. -/
theorem step_next_cases {s t : State} (h : step s = .next t) :
    s.status = .running ∧
      ((∃ pc0, s.callReturn = some pc0 ∧ s.cpu.pc = pc0 ∧ t = { s with callReturn := none }) ∨
       (∃ rest, cpuStep { s with schedule := rest } = .next t) ∨
       (∃ act rest, s.callReturn = none ∧ s.schedule = .host act :: rest ∧
          t = { s with schedule := rest }.perform act)) := by
  unfold step takeTurn at h
  split at h
  · cases h
  · rename_i hrun
    refine ⟨hrun, ?_⟩
    split at h
    · rename_i pc0 hc
      split at h
      · rename_i hp
        exact .inl ⟨pc0, hc, hp, by simpa using h.symm⟩
      · exact .inr (.inl ⟨s.schedule, h⟩)
    · rename_i hc
      split at h
      · exact .inr (.inl ⟨s.schedule, h⟩)
      · rename_i rest _
        exact .inr (.inl ⟨rest, h⟩)
      · rename_i act rest hs
        exact .inr (.inr ⟨act, rest, hc, hs, by simpa using h.symm⟩)

end Sys2Proof.Machine
end

