-- ==== Sys2Proof/Laws/Decode.lean ====
section
/-! SUPPORT. What the decode tables hold: an entry found for a byte makes instructions whose encoding starts with that byte. -/

namespace Sys2Proof

theorem mem_of_lookup {α β : Type} [BEq α] [LawfulBEq α] {l : List (α × β)} {a : α} {b : β} (h : l.lookup a = some b) :
    (a, b) ∈ l := by
  induction l with
  | nil => simp at h
  | cons p l ih =>
    obtain ⟨k, w⟩ := p
    simp only [List.lookup_cons] at h
    split at h
    · rename_i hk; simp at hk; subst hk; cases h; simp
    · exact List.mem_cons_of_mem _ (ih h)

/-- What an entry found for the first byte `b` makes: instructions of the variant whose encoding is `b` and the immediate. -/
def Entry.Admits (v : Variant) (b : Byte) : Entry → Prop
  | .op i => encode i = [b] ∧ i.runsOn v = true
  | .opN mk => ∀ n, encode (mk n) = [b, n] ∧ (mk n).runsOn v = true
  | .opE mk => ∀ n, encode (mk n) = [b, n] ∧ (mk n).runsOn v = true
  | .opNN mk => ∀ nn, encode (mk nn) = [b, loByte nn, hiByte nn] ∧ (mk nn).runsOn v = true
  | .cbPage => b = 0xCB
  | .edPage => b = 0xED ∧ v = .z80

theorem commonTable1_admits (v : Variant) : ∀ p ∈ commonTable1, p.2.Admits v (BitVec.ofNat 8 p.1) := by
  cases v <;> repeat first
    | exact List.forall_mem_nil _
    | refine List.forall_mem_cons.2 ⟨by first | exact ⟨rfl, rfl⟩ | exact fun _ => ⟨rfl, rfl⟩, ?_⟩

theorem commonTable2_admits (v : Variant) : ∀ p ∈ commonTable2, p.2.Admits v (BitVec.ofNat 8 p.1) := by
  cases v <;> repeat first
    | exact List.forall_mem_nil _
    | refine List.forall_mem_cons.2 ⟨by first | exact ⟨rfl, rfl⟩ | exact fun _ => ⟨rfl, rfl⟩, ?_⟩

theorem commonTable3_admits (v : Variant) : ∀ p ∈ commonTable3, p.2.Admits v (BitVec.ofNat 8 p.1) := by
  cases v <;> repeat first
    | exact List.forall_mem_nil _
    | refine List.forall_mem_cons.2 ⟨⟨rfl, rfl⟩, ?_⟩

theorem commonTable4_admits (v : Variant) : ∀ p ∈ commonTable4, p.2.Admits v (BitVec.ofNat 8 p.1) := by
  cases v <;> repeat first
    | exact List.forall_mem_nil _
    | refine List.forall_mem_cons.2 ⟨by first | exact ⟨rfl, rfl⟩ | exact fun _ => ⟨rfl, rfl⟩, ?_⟩

theorem commonTable5_admits (v : Variant) : ∀ p ∈ commonTable5, p.2.Admits v (BitVec.ofNat 8 p.1) := by
  cases v <;> repeat first
    | exact List.forall_mem_nil _
    | refine List.forall_mem_cons.2 ⟨by first | exact ⟨rfl, rfl⟩ | exact fun _ => ⟨rfl, rfl⟩ | rfl, ?_⟩

theorem commonTable_admits (v : Variant) : ∀ p ∈ commonTable, p.2.Admits v (BitVec.ofNat 8 p.1) := by
  intro p hp
  simp only [commonTable, List.mem_append] at hp
  rcases hp with (((h | h) | h) | h) | h
  exacts [commonTable1_admits v p h, commonTable2_admits v p h, commonTable3_admits v p h, commonTable4_admits v p h,
    commonTable5_admits v p h]

theorem variantTable_admits (v : Variant) : ∀ p ∈ variantTable v, p.2.Admits v (BitVec.ofNat 8 p.1) := by
  cases v <;> repeat first
    | exact List.forall_mem_nil _
    | refine List.forall_mem_cons.2 ⟨by first | exact ⟨rfl, rfl⟩ | exact fun _ => ⟨rfl, rfl⟩, ?_⟩

theorem cbRows_admits (v : Variant) :
    ∀ p ∈ cbRows v, encode p.2 = [0xCB, BitVec.ofNat 8 p.1] ∧ p.2.runsOn v = true := by
  cases v <;> simp [cbRows, lrCbPage, encode, Instr.runsOn, Instr.table, Table.runsOn]

theorem edRows_admits (v : Variant) :
    ∀ p ∈ edRows v, encode p.2 = [0xED, BitVec.ofNat 8 p.1] ∧ p.2.runsOn v = true := by
  cases v <;> simp [edRows, encode, Instr.runsOn, Instr.table, Table.runsOn]

/-- What a lookup of a first byte finds (`30_encoding.md` R102). -/
theorem lookupFirst_admits {v : Variant} {b : Byte} {e : Entry} (h : lookupFirst v b = some e) : e.Admits v b := by
  have hb : BitVec.ofNat 8 b.toNat = b := by simp
  unfold lookupFirst at h
  split at h
  · rename_i e' h'; cases h; simpa [hb] using variantTable_admits v _ (mem_of_lookup h')
  · simpa [hb] using commonTable_admits v _ (mem_of_lookup h)

/-- A three-byte instruction decodes with its immediate put together low byte first (`30_encoding.md` R106). -/
theorem decode_opNN {v : Variant} {b : Byte} {mk : Word → Instr} (nn : Word) (rest : List Byte)
    (h : lookupFirst v b = some (.opNN mk)) : decode v (b :: loByte nn :: hiByte nn :: rest) = .ok (mk nn, rest) := by
  simp [decode, h, Entry.complete]

end Sys2Proof
end

