-- ==== Sys2Proof/Laws/Exec.lean ====
section
/-! SUPPORT. What an instruction can do, said once: it is built of register, flag and bus operations, so what those keep,
every instruction keeps. -/

namespace Sys2Proof.Machine

/-- Kept by every operation an instruction is built of but the bus write. -/
structure ReadClosed (P : State → Prop) : Prop where
  setReg8 : ∀ s r v, P s → P (s.setReg8 r v)
  setPair16 : ∀ s p w, P s → P (s.setPair16 p w)
  setFlag : ∀ s fl b, P s → P (s.setFlag fl b)
  setPc : ∀ s w, P s → P (s.setPc w)
  setIff : ∀ s b, P s → P (s.setIff b)
  setEiPending : ∀ s b, P s → P (s.setEiPending b)
  afterRead : ∀ s a, P s → P (s.afterRead a)

/-- Kept by every operation an instruction is built of. -/
structure Closed (P : State → Prop) : Prop extends ReadClosed P where
  write8 : ∀ s a v, P s → P (s.write8 a v)

namespace ReadClosed

variable {P : State → Prop} (hP : ReadClosed P) {s : State} (h : P s)
include hP h

theorem setSp (w : Word) : P (s.setSp w) := hP.setPair16 s .sp w h
theorem read16 (a : Word) : P (s.read16 a).2 := hP.afterRead _ _ (hP.afterRead _ _ h)
theorem pop16 : P s.pop16.2 := hP.setSp (hP.read16 h _) _
theorem finishEi (b : Bool) : P (s.finishEi b) := by
  cases b
  · exact h
  · exact hP.setEiPending _ _ (hP.setIff _ _ h)
theorem loadReg (r : Reg8) (a : Word) : P (loadReg r a s) := hP.setReg8 _ _ _ (hP.afterRead _ _ h)
theorem adjustHl (k : Word) : P (adjustHl k s) := hP.setPair16 _ _ _ h
theorem inc8Flags (v : Byte) : P (inc8Flags v s) := by
  unfold Machine.inc8Flags; repeat apply hP.setFlag
  exact h
theorem dec8Flags (v : Byte) : P (dec8Flags v s) := by
  unfold Machine.dec8Flags; repeat apply hP.setFlag
  exact h
theorem add8Flags (a b : Byte) : P (add8Flags a b s) := by
  unfold Machine.add8Flags; repeat apply hP.setFlag
  exact h
theorem addHlFlags (a b : Word) : P (addHlFlags a b s) := by
  unfold Machine.addHlFlags; repeat apply hP.setFlag
  exact h
theorem spAddFlags (sp : Word) (e : Byte) : P (spAddFlags sp e s) := by
  unfold Machine.spAddFlags; repeat apply hP.setFlag
  exact h
theorem swapFlags (r : Byte) : P (swapFlags r s) := by
  unfold Machine.swapFlags; repeat apply hP.setFlag
  exact h
theorem incReg (r : Reg8) : P (incReg r s) := hP.setReg8 _ _ _ (hP.inc8Flags h _)
theorem decReg (r : Reg8) : P (decReg r s) := hP.setReg8 _ _ _ (hP.dec8Flags h _)
theorem incPair (p : Reg16) : P (incPair p s) := hP.setPair16 _ _ _ h
theorem decPair (p : Reg16) : P (decPair p s) := hP.setPair16 _ _ _ h
theorem addA (b : Byte) : P (addA b s) := hP.setReg8 _ .a _ (hP.add8Flags h _ b)
theorem addAMem : P (addAMem s) := hP.addA (hP.afterRead _ _ h) _
theorem addHlPair (p : Reg16) : P (addHlPair p s) := hP.addHlFlags (hP.setPair16 _ _ _ h) _ _
theorem addSpImm (e : Byte) : P (addSpImm e s) := hP.spAddFlags (hP.setPair16 _ _ _ h) _ _
theorem loadHlSpImm (e : Byte) : P (loadHlSpImm e s) := hP.spAddFlags (hP.setPair16 _ _ _ h) _ _
theorem swapReg (r : Reg8) : P (swapReg r s) := hP.swapFlags (hP.setReg8 _ _ _ h) _
theorem loadPairMem (p : Reg16) (a : Word) : P (loadPairMem p a s) := hP.setPair16 _ _ _ (hP.read16 h _)
theorem jumpTo (w : Word) : P (jumpTo w s) := hP.setPc _ _ h
theorem enableInterrupts : P (enableInterrupts s) := hP.setIff _ _ h
theorem disableInterrupts : P (disableInterrupts s) := hP.setIff _ _ h
theorem requestInterruptEnable : P (requestInterruptEnable s) := hP.setEiPending _ _ h
theorem jumpRelative (e : Byte) : P (jumpRelative e s) := hP.setPc _ _ h
theorem returnFrom : P (returnFrom s) := hP.setPc _ _ (hP.pop16 h)
omit hP in
theorem whenCond (cc : Cond) {f : State → State} (hf : P (f s)) : P (whenCond cc f s) := by
  unfold Machine.whenCond; split
  · exact hf
  · exact h

end ReadClosed

namespace Closed

variable {P : State → Prop} (hP : Closed P) {s : State} (h : P s)
include hP h

theorem write16 (a w : Word) : P (s.write16 a w) := hP.write8 _ _ _ (hP.write8 _ _ _ h)
theorem push16 (w : Word) : P (s.push16 w) := hP.write16 (hP.setSp h _) _ _
theorem storeReg (a : Word) (r : Reg8) : P (storeReg a r s) := hP.write8 _ _ _ h
theorem incMem : P (incMem s) := hP.write8 _ _ _ (hP.inc8Flags (hP.afterRead _ _ h) _)
theorem decMem : P (decMem s) := hP.write8 _ _ _ (hP.dec8Flags (hP.afterRead _ _ h) _)
theorem swapMem : P (swapMem s) := hP.swapFlags (hP.write8 _ _ _ (hP.afterRead _ _ h)) _
theorem blockMoveStep : P (blockMoveStep s) := by
  unfold Machine.blockMoveStep
  repeat apply hP.setFlag
  repeat apply hP.setPair16
  exact hP.write8 _ _ _ (hP.afterRead _ _ h)
theorem callTo (w : Word) : P (callTo w s) := hP.setPc _ _ (hP.push16 h _)

end Closed

/-- What every operation keeps, every instruction keeps. -/
theorem exec_keeps {P : State → Prop} (hP : Closed P) {i : Instr} {s t : State} (h : exec i s = .next t) (hs : P s) :
    P t := by
  cases i <;> (simp only [exec] at h; cases h) <;> with_reducible first
    | exact hs
    | exact hP.setReg8 _ _ _ hs
    | exact hP.loadReg hs _ _
    | exact hP.storeReg hs _ _
    | exact hP.incReg hs _
    | exact hP.decReg hs _
    | exact hP.addA hs _
    | exact hP.swapReg hs _
    | exact hP.setPair16 _ _ _ hs
    | exact hP.incPair hs _
    | exact hP.decPair hs _
    | exact hP.addHlPair hs _
    | exact ReadClosed.whenCond hs _ (hP.jumpTo hs _)
    | exact ReadClosed.whenCond hs _ (hP.jumpRelative hs _)
    | exact ReadClosed.whenCond hs _ (hP.callTo hs _)
    | exact ReadClosed.whenCond hs _ (hP.returnFrom hs)
    | exact hP.adjustHl (hP.loadReg hs _ _) _
    | exact hP.adjustHl (hP.storeReg hs _ _) _
    | exact hP.jumpTo hs _
    | exact hP.jumpRelative hs _
    | exact hP.callTo hs _
    | exact hP.returnFrom hs
    | exact hP.write8 _ _ _ hs
    | exact hP.incMem hs
    | exact hP.decMem hs
    | exact hP.addAMem hs
    | exact hP.swapMem hs
    | exact hP.addSpImm hs _
    | exact hP.loadHlSpImm hs _
    | exact hP.blockMoveStep hs
    | exact hP.loadPairMem hs _ _
    | exact hP.write16 hs _ _
    | exact hP.disableInterrupts hs
    | exact hP.requestInterruptEnable hs
    | exact hP.enableInterrupts (hP.returnFrom hs)

/-- The instruction can write memory (`20_memory.md` R73). -/
def mayWrite : Instr → Bool
  | .ldHlIndB | .ldHlIndC | .ldHlIndD | .ldHlIndE | .ldHlIndH | .ldHlIndL | .ldHlIndA | .ldHlIndN _ => true
  | .incHlInd | .decHlInd | .swapHlInd | .ldBcIndA | .ldDeIndA | .ldHlIncA | .ldHlDecA | .ldCIndA | .ldi => true
  | .ldhNIndA _ | .ldNnIndAZ80 _ | .ldNnIndALr _ | .ldNnIndHl _ | .call _ => true
  | .callNz _ | .callZ _ | .callNc _ | .callC _ | .callPo _ | .callPe _ | .callP _ | .callM _ => true
  | _ => false

/-- What every operation but the bus write keeps, every instruction that writes no memory keeps. -/
theorem exec_keeps_of_reads {P : State → Prop} (hP : ReadClosed P) {i : Instr} {s t : State} (hw : mayWrite i = false)
    (h : exec i s = .next t) (hs : P s) : P t := by
  cases i <;> first
    | exact nomatch (hw : true = false)
    | (simp only [exec] at h; cases h; with_reducible first
        | exact hs
        | exact hP.setReg8 _ _ _ hs
        | exact hP.loadReg hs _ _
        | exact hP.incReg hs _
        | exact hP.decReg hs _
        | exact hP.addA hs _
        | exact hP.swapReg hs _
        | exact hP.setPair16 _ _ _ hs
        | exact hP.incPair hs _
        | exact hP.decPair hs _
        | exact hP.addHlPair hs _
        | exact ReadClosed.whenCond hs _ (hP.jumpTo hs _)
        | exact ReadClosed.whenCond hs _ (hP.jumpRelative hs _)
        | exact ReadClosed.whenCond hs _ (hP.returnFrom hs)
        | exact hP.adjustHl (hP.loadReg hs _ _) _
        | exact hP.jumpTo hs _
        | exact hP.jumpRelative hs _
        | exact hP.returnFrom hs
        | exact hP.addAMem hs
        | exact hP.addSpImm hs _
        | exact hP.loadHlSpImm hs _
        | exact hP.loadPairMem hs _ _
        | exact hP.disableInterrupts hs
        | exact hP.requestInterruptEnable hs
        | exact hP.enableInterrupts (hP.returnFrom hs))

end Sys2Proof.Machine
end

