-- ==== Sys2Proof/Laws/PerInstr.lean ====
section
/-! SUPPORT. One lemma per instruction: the first byte of its encoding tells how many bytes a step reads for it, and that is
the length of its encoding (`30_encoding.md` R100, R101). -/

namespace Sys2Proof.Laws.FetchLength

/-- On a variant that has the instruction, its first byte calls for exactly its encoding, of 1 to 3 bytes. -/
def Statement (i : Instr) : Prop :=
  ∀ v, i.runsOn v = true → ∃ b0 rest, encode i = b0 :: rest ∧ fetchLength v b0 = (encode i).length ∧ rest.length ≤ 2

theorem nop : Statement .nop := fun v _ => by cases v <;> exact ⟨_, _, rfl, rfl, by decide⟩
theorem ldBcNn (nn : Word) : Statement (.ldBcNn nn) := fun v _ => by cases v <;> exact ⟨_, _, rfl, rfl, by simp⟩
theorem ldDeNn (nn : Word) : Statement (.ldDeNn nn) := fun v _ => by cases v <;> exact ⟨_, _, rfl, rfl, by simp⟩
theorem ldHlNn (nn : Word) : Statement (.ldHlNn nn) := fun v _ => by cases v <;> exact ⟨_, _, rfl, rfl, by simp⟩
theorem ldSpNn (nn : Word) : Statement (.ldSpNn nn) := fun v _ => by cases v <;> exact ⟨_, _, rfl, rfl, by simp⟩
theorem ldBcIndA : Statement .ldBcIndA := fun v _ => by cases v <;> exact ⟨_, _, rfl, rfl, by decide⟩
theorem ldDeIndA : Statement .ldDeIndA := fun v _ => by cases v <;> exact ⟨_, _, rfl, rfl, by decide⟩
theorem ldABcInd : Statement .ldABcInd := fun v _ => by cases v <;> exact ⟨_, _, rfl, rfl, by decide⟩
theorem ldADeInd : Statement .ldADeInd := fun v _ => by cases v <;> exact ⟨_, _, rfl, rfl, by decide⟩
theorem incBc : Statement .incBc := fun v _ => by cases v <;> exact ⟨_, _, rfl, rfl, by decide⟩
theorem decBc : Statement .decBc := fun v _ => by cases v <;> exact ⟨_, _, rfl, rfl, by decide⟩
theorem addHlBc : Statement .addHlBc := fun v _ => by cases v <;> exact ⟨_, _, rfl, rfl, by decide⟩
theorem incDe : Statement .incDe := fun v _ => by cases v <;> exact ⟨_, _, rfl, rfl, by decide⟩
theorem decDe : Statement .decDe := fun v _ => by cases v <;> exact ⟨_, _, rfl, rfl, by decide⟩
theorem addHlDe : Statement .addHlDe := fun v _ => by cases v <;> exact ⟨_, _, rfl, rfl, by decide⟩
theorem incHl : Statement .incHl := fun v _ => by cases v <;> exact ⟨_, _, rfl, rfl, by decide⟩
theorem decHl : Statement .decHl := fun v _ => by cases v <;> exact ⟨_, _, rfl, rfl, by decide⟩
theorem addHlHl : Statement .addHlHl := fun v _ => by cases v <;> exact ⟨_, _, rfl, rfl, by decide⟩
theorem incSp : Statement .incSp := fun v _ => by cases v <;> exact ⟨_, _, rfl, rfl, by decide⟩
theorem decSp : Statement .decSp := fun v _ => by cases v <;> exact ⟨_, _, rfl, rfl, by decide⟩
theorem addHlSp : Statement .addHlSp := fun v _ => by cases v <;> exact ⟨_, _, rfl, rfl, by decide⟩
theorem incB : Statement .incB := fun v _ => by cases v <;> exact ⟨_, _, rfl, rfl, by decide⟩
theorem decB : Statement .decB := fun v _ => by cases v <;> exact ⟨_, _, rfl, rfl, by decide⟩
theorem ldBN (n : Byte) : Statement (.ldBN n) := fun v _ => by cases v <;> exact ⟨_, _, rfl, rfl, by simp⟩
theorem incC : Statement .incC := fun v _ => by cases v <;> exact ⟨_, _, rfl, rfl, by decide⟩
theorem decC : Statement .decC := fun v _ => by cases v <;> exact ⟨_, _, rfl, rfl, by decide⟩
theorem ldCN (n : Byte) : Statement (.ldCN n) := fun v _ => by cases v <;> exact ⟨_, _, rfl, rfl, by simp⟩
theorem incD : Statement .incD := fun v _ => by cases v <;> exact ⟨_, _, rfl, rfl, by decide⟩
theorem decD : Statement .decD := fun v _ => by cases v <;> exact ⟨_, _, rfl, rfl, by decide⟩
theorem ldDN (n : Byte) : Statement (.ldDN n) := fun v _ => by cases v <;> exact ⟨_, _, rfl, rfl, by simp⟩
theorem incE : Statement .incE := fun v _ => by cases v <;> exact ⟨_, _, rfl, rfl, by decide⟩
theorem decE : Statement .decE := fun v _ => by cases v <;> exact ⟨_, _, rfl, rfl, by decide⟩
theorem ldEN (n : Byte) : Statement (.ldEN n) := fun v _ => by cases v <;> exact ⟨_, _, rfl, rfl, by simp⟩
theorem incH : Statement .incH := fun v _ => by cases v <;> exact ⟨_, _, rfl, rfl, by decide⟩
theorem decH : Statement .decH := fun v _ => by cases v <;> exact ⟨_, _, rfl, rfl, by decide⟩
theorem ldHN (n : Byte) : Statement (.ldHN n) := fun v _ => by cases v <;> exact ⟨_, _, rfl, rfl, by simp⟩
theorem incL : Statement .incL := fun v _ => by cases v <;> exact ⟨_, _, rfl, rfl, by decide⟩
theorem decL : Statement .decL := fun v _ => by cases v <;> exact ⟨_, _, rfl, rfl, by decide⟩
theorem ldLN (n : Byte) : Statement (.ldLN n) := fun v _ => by cases v <;> exact ⟨_, _, rfl, rfl, by simp⟩
theorem incHlInd : Statement .incHlInd := fun v _ => by cases v <;> exact ⟨_, _, rfl, rfl, by decide⟩
theorem decHlInd : Statement .decHlInd := fun v _ => by cases v <;> exact ⟨_, _, rfl, rfl, by decide⟩
theorem ldHlIndN (n : Byte) : Statement (.ldHlIndN n) := fun v _ => by cases v <;> exact ⟨_, _, rfl, rfl, by simp⟩
theorem incA : Statement .incA := fun v _ => by cases v <;> exact ⟨_, _, rfl, rfl, by decide⟩
theorem decA : Statement .decA := fun v _ => by cases v <;> exact ⟨_, _, rfl, rfl, by decide⟩
theorem ldAN (n : Byte) : Statement (.ldAN n) := fun v _ => by cases v <;> exact ⟨_, _, rfl, rfl, by simp⟩
theorem jr (e : Byte) : Statement (.jr e) := fun v _ => by cases v <;> exact ⟨_, _, rfl, rfl, by simp⟩
theorem jrNz (e : Byte) : Statement (.jrNz e) := fun v _ => by cases v <;> exact ⟨_, _, rfl, rfl, by simp⟩
theorem jrZ (e : Byte) : Statement (.jrZ e) := fun v _ => by cases v <;> exact ⟨_, _, rfl, rfl, by simp⟩
theorem jrNc (e : Byte) : Statement (.jrNc e) := fun v _ => by cases v <;> exact ⟨_, _, rfl, rfl, by simp⟩
theorem jrC (e : Byte) : Statement (.jrC e) := fun v _ => by cases v <;> exact ⟨_, _, rfl, rfl, by simp⟩
theorem ldBB : Statement .ldBB := fun v _ => by cases v <;> exact ⟨_, _, rfl, rfl, by decide⟩
theorem ldBC : Statement .ldBC := fun v _ => by cases v <;> exact ⟨_, _, rfl, rfl, by decide⟩
theorem ldBD : Statement .ldBD := fun v _ => by cases v <;> exact ⟨_, _, rfl, rfl, by decide⟩
theorem ldBE : Statement .ldBE := fun v _ => by cases v <;> exact ⟨_, _, rfl, rfl, by decide⟩
theorem ldBH : Statement .ldBH := fun v _ => by cases v <;> exact ⟨_, _, rfl, rfl, by decide⟩
theorem ldBL : Statement .ldBL := fun v _ => by cases v <;> exact ⟨_, _, rfl, rfl, by decide⟩
theorem ldBHlInd : Statement .ldBHlInd := fun v _ => by cases v <;> exact ⟨_, _, rfl, rfl, by decide⟩
theorem ldBA : Statement .ldBA := fun v _ => by cases v <;> exact ⟨_, _, rfl, rfl, by decide⟩
theorem ldCB : Statement .ldCB := fun v _ => by cases v <;> exact ⟨_, _, rfl, rfl, by decide⟩
theorem ldCC : Statement .ldCC := fun v _ => by cases v <;> exact ⟨_, _, rfl, rfl, by decide⟩
theorem ldCD : Statement .ldCD := fun v _ => by cases v <;> exact ⟨_, _, rfl, rfl, by decide⟩
theorem ldCE : Statement .ldCE := fun v _ => by cases v <;> exact ⟨_, _, rfl, rfl, by decide⟩
theorem ldCH : Statement .ldCH := fun v _ => by cases v <;> exact ⟨_, _, rfl, rfl, by decide⟩
theorem ldCL : Statement .ldCL := fun v _ => by cases v <;> exact ⟨_, _, rfl, rfl, by decide⟩
theorem ldCHlInd : Statement .ldCHlInd := fun v _ => by cases v <;> exact ⟨_, _, rfl, rfl, by decide⟩
theorem ldCA : Statement .ldCA := fun v _ => by cases v <;> exact ⟨_, _, rfl, rfl, by decide⟩
theorem ldDB : Statement .ldDB := fun v _ => by cases v <;> exact ⟨_, _, rfl, rfl, by decide⟩
theorem ldDC : Statement .ldDC := fun v _ => by cases v <;> exact ⟨_, _, rfl, rfl, by decide⟩
theorem ldDD : Statement .ldDD := fun v _ => by cases v <;> exact ⟨_, _, rfl, rfl, by decide⟩
theorem ldDE : Statement .ldDE := fun v _ => by cases v <;> exact ⟨_, _, rfl, rfl, by decide⟩
theorem ldDH : Statement .ldDH := fun v _ => by cases v <;> exact ⟨_, _, rfl, rfl, by decide⟩
theorem ldDL : Statement .ldDL := fun v _ => by cases v <;> exact ⟨_, _, rfl, rfl, by decide⟩
theorem ldDHlInd : Statement .ldDHlInd := fun v _ => by cases v <;> exact ⟨_, _, rfl, rfl, by decide⟩
theorem ldDA : Statement .ldDA := fun v _ => by cases v <;> exact ⟨_, _, rfl, rfl, by decide⟩
theorem ldEB : Statement .ldEB := fun v _ => by cases v <;> exact ⟨_, _, rfl, rfl, by decide⟩
theorem ldEC : Statement .ldEC := fun v _ => by cases v <;> exact ⟨_, _, rfl, rfl, by decide⟩
theorem ldED : Statement .ldED := fun v _ => by cases v <;> exact ⟨_, _, rfl, rfl, by decide⟩
theorem ldEE : Statement .ldEE := fun v _ => by cases v <;> exact ⟨_, _, rfl, rfl, by decide⟩
theorem ldEH : Statement .ldEH := fun v _ => by cases v <;> exact ⟨_, _, rfl, rfl, by decide⟩
theorem ldEL : Statement .ldEL := fun v _ => by cases v <;> exact ⟨_, _, rfl, rfl, by decide⟩
theorem ldEHlInd : Statement .ldEHlInd := fun v _ => by cases v <;> exact ⟨_, _, rfl, rfl, by decide⟩
theorem ldEA : Statement .ldEA := fun v _ => by cases v <;> exact ⟨_, _, rfl, rfl, by decide⟩
theorem ldHB : Statement .ldHB := fun v _ => by cases v <;> exact ⟨_, _, rfl, rfl, by decide⟩
theorem ldHC : Statement .ldHC := fun v _ => by cases v <;> exact ⟨_, _, rfl, rfl, by decide⟩
theorem ldHD : Statement .ldHD := fun v _ => by cases v <;> exact ⟨_, _, rfl, rfl, by decide⟩
theorem ldHE : Statement .ldHE := fun v _ => by cases v <;> exact ⟨_, _, rfl, rfl, by decide⟩
theorem ldHH : Statement .ldHH := fun v _ => by cases v <;> exact ⟨_, _, rfl, rfl, by decide⟩
theorem ldHL : Statement .ldHL := fun v _ => by cases v <;> exact ⟨_, _, rfl, rfl, by decide⟩
theorem ldHHlInd : Statement .ldHHlInd := fun v _ => by cases v <;> exact ⟨_, _, rfl, rfl, by decide⟩
theorem ldHA : Statement .ldHA := fun v _ => by cases v <;> exact ⟨_, _, rfl, rfl, by decide⟩
theorem ldLB : Statement .ldLB := fun v _ => by cases v <;> exact ⟨_, _, rfl, rfl, by decide⟩
theorem ldLC : Statement .ldLC := fun v _ => by cases v <;> exact ⟨_, _, rfl, rfl, by decide⟩
theorem ldLD : Statement .ldLD := fun v _ => by cases v <;> exact ⟨_, _, rfl, rfl, by decide⟩
theorem ldLE : Statement .ldLE := fun v _ => by cases v <;> exact ⟨_, _, rfl, rfl, by decide⟩
theorem ldLH : Statement .ldLH := fun v _ => by cases v <;> exact ⟨_, _, rfl, rfl, by decide⟩
theorem ldLL : Statement .ldLL := fun v _ => by cases v <;> exact ⟨_, _, rfl, rfl, by decide⟩
theorem ldLHlInd : Statement .ldLHlInd := fun v _ => by cases v <;> exact ⟨_, _, rfl, rfl, by decide⟩
theorem ldLA : Statement .ldLA := fun v _ => by cases v <;> exact ⟨_, _, rfl, rfl, by decide⟩
theorem ldHlIndB : Statement .ldHlIndB := fun v _ => by cases v <;> exact ⟨_, _, rfl, rfl, by decide⟩
theorem ldHlIndC : Statement .ldHlIndC := fun v _ => by cases v <;> exact ⟨_, _, rfl, rfl, by decide⟩
theorem ldHlIndD : Statement .ldHlIndD := fun v _ => by cases v <;> exact ⟨_, _, rfl, rfl, by decide⟩
theorem ldHlIndE : Statement .ldHlIndE := fun v _ => by cases v <;> exact ⟨_, _, rfl, rfl, by decide⟩
theorem ldHlIndH : Statement .ldHlIndH := fun v _ => by cases v <;> exact ⟨_, _, rfl, rfl, by decide⟩
theorem ldHlIndL : Statement .ldHlIndL := fun v _ => by cases v <;> exact ⟨_, _, rfl, rfl, by decide⟩
theorem ldHlIndA : Statement .ldHlIndA := fun v _ => by cases v <;> exact ⟨_, _, rfl, rfl, by decide⟩
theorem ldAB : Statement .ldAB := fun v _ => by cases v <;> exact ⟨_, _, rfl, rfl, by decide⟩
theorem ldAC : Statement .ldAC := fun v _ => by cases v <;> exact ⟨_, _, rfl, rfl, by decide⟩
theorem ldAD : Statement .ldAD := fun v _ => by cases v <;> exact ⟨_, _, rfl, rfl, by decide⟩
theorem ldAE : Statement .ldAE := fun v _ => by cases v <;> exact ⟨_, _, rfl, rfl, by decide⟩
theorem ldAH : Statement .ldAH := fun v _ => by cases v <;> exact ⟨_, _, rfl, rfl, by decide⟩
theorem ldAL : Statement .ldAL := fun v _ => by cases v <;> exact ⟨_, _, rfl, rfl, by decide⟩
theorem ldAHlInd : Statement .ldAHlInd := fun v _ => by cases v <;> exact ⟨_, _, rfl, rfl, by decide⟩
theorem ldAA : Statement .ldAA := fun v _ => by cases v <;> exact ⟨_, _, rfl, rfl, by decide⟩
theorem addAB : Statement .addAB := fun v _ => by cases v <;> exact ⟨_, _, rfl, rfl, by decide⟩
theorem addAC : Statement .addAC := fun v _ => by cases v <;> exact ⟨_, _, rfl, rfl, by decide⟩
theorem addAD : Statement .addAD := fun v _ => by cases v <;> exact ⟨_, _, rfl, rfl, by decide⟩
theorem addAE : Statement .addAE := fun v _ => by cases v <;> exact ⟨_, _, rfl, rfl, by decide⟩
theorem addAH : Statement .addAH := fun v _ => by cases v <;> exact ⟨_, _, rfl, rfl, by decide⟩
theorem addAL : Statement .addAL := fun v _ => by cases v <;> exact ⟨_, _, rfl, rfl, by decide⟩
theorem addAHlInd : Statement .addAHlInd := fun v _ => by cases v <;> exact ⟨_, _, rfl, rfl, by decide⟩
theorem addAA : Statement .addAA := fun v _ => by cases v <;> exact ⟨_, _, rfl, rfl, by decide⟩
theorem addAN (n : Byte) : Statement (.addAN n) := fun v _ => by cases v <;> exact ⟨_, _, rfl, rfl, by simp⟩
theorem retNz : Statement .retNz := fun v _ => by cases v <;> exact ⟨_, _, rfl, rfl, by decide⟩
theorem jpNz (nn : Word) : Statement (.jpNz nn) := fun v _ => by cases v <;> exact ⟨_, _, rfl, rfl, by simp⟩
theorem callNz (nn : Word) : Statement (.callNz nn) := fun v _ => by cases v <;> exact ⟨_, _, rfl, rfl, by simp⟩
theorem retZ : Statement .retZ := fun v _ => by cases v <;> exact ⟨_, _, rfl, rfl, by decide⟩
theorem jpZ (nn : Word) : Statement (.jpZ nn) := fun v _ => by cases v <;> exact ⟨_, _, rfl, rfl, by simp⟩
theorem callZ (nn : Word) : Statement (.callZ nn) := fun v _ => by cases v <;> exact ⟨_, _, rfl, rfl, by simp⟩
theorem retNc : Statement .retNc := fun v _ => by cases v <;> exact ⟨_, _, rfl, rfl, by decide⟩
theorem jpNc (nn : Word) : Statement (.jpNc nn) := fun v _ => by cases v <;> exact ⟨_, _, rfl, rfl, by simp⟩
theorem callNc (nn : Word) : Statement (.callNc nn) := fun v _ => by cases v <;> exact ⟨_, _, rfl, rfl, by simp⟩
theorem retC : Statement .retC := fun v _ => by cases v <;> exact ⟨_, _, rfl, rfl, by decide⟩
theorem jpC (nn : Word) : Statement (.jpC nn) := fun v _ => by cases v <;> exact ⟨_, _, rfl, rfl, by simp⟩
theorem callC (nn : Word) : Statement (.callC nn) := fun v _ => by cases v <;> exact ⟨_, _, rfl, rfl, by simp⟩
theorem retPo : Statement .retPo := fun v h => by cases v <;> first | exact ⟨_, _, rfl, rfl, by decide⟩ | cases h
theorem jpPo (nn : Word) : Statement (.jpPo nn) := fun v h => by cases v <;> first | exact ⟨_, _, rfl, rfl, by simp⟩ | cases h
theorem callPo (nn : Word) : Statement (.callPo nn) := fun v h => by cases v <;> first | exact ⟨_, _, rfl, rfl, by simp⟩ | cases h
theorem retPe : Statement .retPe := fun v h => by cases v <;> first | exact ⟨_, _, rfl, rfl, by decide⟩ | cases h
theorem jpPe (nn : Word) : Statement (.jpPe nn) := fun v h => by cases v <;> exact ⟨_, _, rfl, rfl, by simp⟩
theorem callPe (nn : Word) : Statement (.callPe nn) := fun v h => by cases v <;> first | exact ⟨_, _, rfl, rfl, by simp⟩ | cases h
theorem retP : Statement .retP := fun v h => by cases v <;> first | exact ⟨_, _, rfl, rfl, by decide⟩ | cases h
theorem jpP (nn : Word) : Statement (.jpP nn) := fun v h => by cases v <;> first | exact ⟨_, _, rfl, rfl, by simp⟩ | cases h
theorem callP (nn : Word) : Statement (.callP nn) := fun v h => by cases v <;> first | exact ⟨_, _, rfl, rfl, by simp⟩ | cases h
theorem retM : Statement .retM := fun v h => by cases v <;> first | exact ⟨_, _, rfl, rfl, by decide⟩ | cases h
theorem jpM (nn : Word) : Statement (.jpM nn) := fun v h => by cases v <;> exact ⟨_, _, rfl, rfl, by simp⟩
theorem callM (nn : Word) : Statement (.callM nn) := fun v h => by cases v <;> first | exact ⟨_, _, rfl, rfl, by simp⟩ | cases h
theorem jp (nn : Word) : Statement (.jp nn) := fun v _ => by cases v <;> exact ⟨_, _, rfl, rfl, by simp⟩
theorem ret : Statement .ret := fun v _ => by cases v <;> exact ⟨_, _, rfl, rfl, by decide⟩
theorem call (nn : Word) : Statement (.call nn) := fun v _ => by cases v <;> exact ⟨_, _, rfl, rfl, by simp⟩
theorem jpHlInd : Statement .jpHlInd := fun v _ => by cases v <;> exact ⟨_, _, rfl, rfl, by decide⟩
theorem ldSpHl : Statement .ldSpHl := fun v _ => by cases v <;> exact ⟨_, _, rfl, rfl, by decide⟩
theorem di : Statement .di := fun v _ => by cases v <;> exact ⟨_, _, rfl, rfl, by decide⟩
theorem ei : Statement .ei := fun v _ => by cases v <;> exact ⟨_, _, rfl, rfl, by decide⟩
theorem ldNnIndHl (nn : Word) : Statement (.ldNnIndHl nn) := fun v h => by cases v <;> first | exact ⟨_, _, rfl, rfl, by simp⟩ | cases h
theorem ldHlNnInd (nn : Word) : Statement (.ldHlNnInd nn) := fun v h => by cases v <;> first | exact ⟨_, _, rfl, rfl, by simp⟩ | cases h
theorem ldNnIndAZ80 (nn : Word) : Statement (.ldNnIndAZ80 nn) := fun v h => by cases v <;> first | exact ⟨_, _, rfl, rfl, by simp⟩ | cases h
theorem ldANnIndZ80 (nn : Word) : Statement (.ldANnIndZ80 nn) := fun v h => by cases v <;> first | exact ⟨_, _, rfl, rfl, by simp⟩ | cases h
theorem ldi : Statement .ldi := fun v h => by cases v <;> first | exact ⟨_, _, rfl, rfl, by decide⟩ | cases h
theorem ldHlIncA : Statement .ldHlIncA := fun v h => by cases v <;> first | exact ⟨_, _, rfl, rfl, by decide⟩ | cases h
theorem ldAHlInc : Statement .ldAHlInc := fun v h => by cases v <;> first | exact ⟨_, _, rfl, rfl, by decide⟩ | cases h
theorem ldHlDecA : Statement .ldHlDecA := fun v h => by cases v <;> first | exact ⟨_, _, rfl, rfl, by decide⟩ | cases h
theorem ldAHlDec : Statement .ldAHlDec := fun v h => by cases v <;> first | exact ⟨_, _, rfl, rfl, by decide⟩ | cases h
theorem reti : Statement .reti := fun v h => by cases v <;> exact ⟨_, _, rfl, rfl, by decide⟩
theorem ldhNIndA (n : Byte) : Statement (.ldhNIndA n) := fun v h => by cases v <;> first | exact ⟨_, _, rfl, rfl, by simp⟩ | cases h
theorem ldCIndA : Statement .ldCIndA := fun v h => by cases v <;> first | exact ⟨_, _, rfl, rfl, by decide⟩ | cases h
theorem addSpN (e : Byte) : Statement (.addSpN e) := fun v h => by cases v <;> first | exact ⟨_, _, rfl, rfl, by simp⟩ | cases h
theorem ldNnIndALr (nn : Word) : Statement (.ldNnIndALr nn) := fun v h => by cases v <;> exact ⟨_, _, rfl, rfl, by simp⟩
theorem ldhANInd (n : Byte) : Statement (.ldhANInd n) := fun v h => by cases v <;> first | exact ⟨_, _, rfl, rfl, by simp⟩ | cases h
theorem ldACInd : Statement .ldACInd := fun v h => by cases v <;> first | exact ⟨_, _, rfl, rfl, by decide⟩ | cases h
theorem ldHlSpN (e : Byte) : Statement (.ldHlSpN e) := fun v h => by cases v <;> first | exact ⟨_, _, rfl, rfl, by simp⟩ | cases h
theorem ldANnIndLr (nn : Word) : Statement (.ldANnIndLr nn) := fun v h => by cases v <;> exact ⟨_, _, rfl, rfl, by simp⟩
theorem swapB : Statement .swapB := fun v h => by cases v <;> exact ⟨_, _, rfl, rfl, by decide⟩
theorem swapC : Statement .swapC := fun v h => by cases v <;> exact ⟨_, _, rfl, rfl, by decide⟩
theorem swapD : Statement .swapD := fun v h => by cases v <;> exact ⟨_, _, rfl, rfl, by decide⟩
theorem swapE : Statement .swapE := fun v h => by cases v <;> exact ⟨_, _, rfl, rfl, by decide⟩
theorem swapH : Statement .swapH := fun v h => by cases v <;> exact ⟨_, _, rfl, rfl, by decide⟩
theorem swapL : Statement .swapL := fun v h => by cases v <;> exact ⟨_, _, rfl, rfl, by decide⟩
theorem swapHlInd : Statement .swapHlInd := fun v h => by cases v <;> exact ⟨_, _, rfl, rfl, by decide⟩
theorem swapA : Statement .swapA := fun v h => by cases v <;> exact ⟨_, _, rfl, rfl, by decide⟩

end Sys2Proof.Laws.FetchLength
end

