-- ==== Sys2Proof/Tests/Slice0.lean ====
section
/-! SUPPORT. Tests. Expected results come from the spec: the encodings of `30_encoding.md` R104, the vectors of
`95_test_vectors.md` (named in each comment), and the examples of the rules. The last part shows, for each statement of
`Certificates/Slice0/Obligations.lean` that has hypotheses, a concrete case that meets them. -/

namespace Sys2Proof.Tests

open Sys2Proof.Machine Sys2Proof.Stated

/-! ## Well-formedness refuses -/

/-- A Z80-only instruction on the LR35902 and the other way round. -/
theorem test_wrong_variant_refused :
    (Instr.ldi.runsOn .lr35902, (Instr.retPo).runsOn .lr35902, Instr.reti.runsOn .z80, Instr.swapA.runsOn .z80) =
      (false, false, false, false) := by decide

/-- A range that ends before it starts. -/
theorem test_empty_range_refused :
    ({ first := 0xC001, last := 0xC000, device := .ram } : Registration).wf = false := by decide

/-- An APU somewhere else than 0xFF10..0xFF3F: wrong first address, wrong last address. -/
theorem test_apu_range_refused :
    (({ first := 0xFF11, last := 0xFF3F, device := .apu } : Registration).wf,
      ({ first := 0xFF10, last := 0xFF40, device := .apu } : Registration).wf) = (false, false) := by decide

/-- Two ranges that share one address, and two neighbours that share none. -/
theorem test_overlap_refused :
    ¬ disjointRanges [{ first := 0xC000, last := 0xCFFF, device := .ram }, { first := 0xCFFF, last := 0xDFFF, device := .rom }] ∧
      disjointRanges [{ first := 0xC000, last := 0xCFFE, device := .ram }, { first := 0xCFFF, last := 0xDFFF, device := .rom }] := by
  decide

/-- A parameter list with an ill-formed entry, and one with an overlap. -/
theorem test_config_refused :
    ¬ Config.wf { variant := .z80, peripherals := [{ first := 1, last := 0, device := .ram }], ldhOffset := .signed } ∧
      ¬ Config.wf { variant := .z80, peripherals := [⟨0, 5, .ram⟩, ⟨5, 9, .ram⟩], ldhOffset := .signed } := by
  decide

/-! ## Decoding -/

/-- The bytes decode to the instruction and to nothing more. -/
def decodesTo (v : Variant) (bs : List Byte) (i : Instr) : Bool :=
  match decode v bs with
  | .ok (j, rest) => j == i && rest.isEmpty
  | .error _ => false

/-- The bytes are refused. -/
def refuses (v : Variant) (bs : List Byte) : Bool :=
  match decode v bs with
  | .ok _ => false
  | .error _ => true

/-- Words of R104 for both variants, bit by bit, `n = e = 0x5A`, `nn = 0x1234`. Part 1. -/
def commonWords1 : List (List Byte × Instr) :=
  [ ([0b00000000], .nop), ([0b00000001, 0x34, 0x12], .ldBcNn 0x1234), ([0b00010001, 0x34, 0x12], .ldDeNn 0x1234),
    ([0b00100001, 0x34, 0x12], .ldHlNn 0x1234), ([0b00110001, 0x34, 0x12], .ldSpNn 0x1234),
    ([0b00000010], .ldBcIndA), ([0b00010010], .ldDeIndA), ([0b00001010], .ldABcInd), ([0b00011010], .ldADeInd),
    ([0b00000011], .incBc), ([0b00001011], .decBc), ([0b00001001], .addHlBc), ([0b00010011], .incDe),
    ([0b00011011], .decDe), ([0b00011001], .addHlDe), ([0b00100011], .incHl), ([0b00101011], .decHl),
    ([0b00101001], .addHlHl), ([0b00110011], .incSp), ([0b00111011], .decSp), ([0b00111001], .addHlSp),
    ([0b00000100], .incB), ([0b00000101], .decB), ([0b00000110, 0x5A], .ldBN 0x5A), ([0b00001100], .incC),
    ([0b00001101], .decC), ([0b00001110, 0x5A], .ldCN 0x5A), ([0b00010100], .incD), ([0b00010101], .decD),
    ([0b00010110, 0x5A], .ldDN 0x5A), ([0b00011100], .incE), ([0b00011101], .decE) ]

/-- Words of R104 for both variants, bit by bit, `n = e = 0x5A`, `nn = 0x1234`. Part 2. -/
def commonWords2 : List (List Byte × Instr) :=
  [ ([0b00011110, 0x5A], .ldEN 0x5A), ([0b00100100], .incH), ([0b00100101], .decH),
    ([0b00100110, 0x5A], .ldHN 0x5A), ([0b00101100], .incL), ([0b00101101], .decL),
    ([0b00101110, 0x5A], .ldLN 0x5A), ([0b00110100], .incHlInd), ([0b00110101], .decHlInd),
    ([0b00110110, 0x5A], .ldHlIndN 0x5A), ([0b00111100], .incA), ([0b00111101], .decA),
    ([0b00111110, 0x5A], .ldAN 0x5A), ([0b00011000, 0x5A], .jr 0x5A), ([0b00100000, 0x5A], .jrNz 0x5A),
    ([0b00101000, 0x5A], .jrZ 0x5A), ([0b00110000, 0x5A], .jrNc 0x5A), ([0b00111000, 0x5A], .jrC 0x5A),
    ([0b01000000], .ldBB), ([0b01000001], .ldBC), ([0b01000010], .ldBD), ([0b01000011], .ldBE),
    ([0b01000100], .ldBH), ([0b01000101], .ldBL), ([0b01000110], .ldBHlInd), ([0b01000111], .ldBA),
    ([0b01001000], .ldCB), ([0b01001001], .ldCC), ([0b01001010], .ldCD), ([0b01001011], .ldCE),
    ([0b01001100], .ldCH), ([0b01001101], .ldCL) ]

/-- Words of R104 for both variants, bit by bit, `n = e = 0x5A`, `nn = 0x1234`. Part 3. -/
def commonWords3 : List (List Byte × Instr) :=
  [ ([0b01001110], .ldCHlInd), ([0b01001111], .ldCA), ([0b01010000], .ldDB), ([0b01010001], .ldDC),
    ([0b01010010], .ldDD), ([0b01010011], .ldDE), ([0b01010100], .ldDH), ([0b01010101], .ldDL),
    ([0b01010110], .ldDHlInd), ([0b01010111], .ldDA), ([0b01011000], .ldEB), ([0b01011001], .ldEC),
    ([0b01011010], .ldED), ([0b01011011], .ldEE), ([0b01011100], .ldEH), ([0b01011101], .ldEL),
    ([0b01011110], .ldEHlInd), ([0b01011111], .ldEA), ([0b01100000], .ldHB), ([0b01100001], .ldHC),
    ([0b01100010], .ldHD), ([0b01100011], .ldHE), ([0b01100100], .ldHH), ([0b01100101], .ldHL),
    ([0b01100110], .ldHHlInd), ([0b01100111], .ldHA), ([0b01101000], .ldLB), ([0b01101001], .ldLC),
    ([0b01101010], .ldLD), ([0b01101011], .ldLE), ([0b01101100], .ldLH), ([0b01101101], .ldLL) ]

/-- Words of R104 for both variants, bit by bit, `n = e = 0x5A`, `nn = 0x1234`. Part 4. -/
def commonWords4 : List (List Byte × Instr) :=
  [ ([0b01101110], .ldLHlInd), ([0b01101111], .ldLA), ([0b01110000], .ldHlIndB), ([0b01110001], .ldHlIndC),
    ([0b01110010], .ldHlIndD), ([0b01110011], .ldHlIndE), ([0b01110100], .ldHlIndH), ([0b01110101], .ldHlIndL),
    ([0b01110111], .ldHlIndA), ([0b01111000], .ldAB), ([0b01111001], .ldAC), ([0b01111010], .ldAD),
    ([0b01111011], .ldAE), ([0b01111100], .ldAH), ([0b01111101], .ldAL), ([0b01111110], .ldAHlInd),
    ([0b01111111], .ldAA), ([0b10000000], .addAB), ([0b10000001], .addAC), ([0b10000010], .addAD),
    ([0b10000011], .addAE), ([0b10000100], .addAH), ([0b10000101], .addAL), ([0b10000110], .addAHlInd),
    ([0b10000111], .addAA), ([0b11000110, 0x5A], .addAN 0x5A), ([0b11000000], .retNz),
    ([0b11000010, 0x34, 0x12], .jpNz 0x1234), ([0b11000100, 0x34, 0x12], .callNz 0x1234), ([0b11001000], .retZ),
    ([0b11001010, 0x34, 0x12], .jpZ 0x1234), ([0b11001100, 0x34, 0x12], .callZ 0x1234) ]

/-- Words of R104 for both variants, bit by bit, `n = e = 0x5A`, `nn = 0x1234`. Part 5. -/
def commonWords5 : List (List Byte × Instr) :=
  [ ([0b11010000], .retNc), ([0b11010010, 0x34, 0x12], .jpNc 0x1234), ([0b11010100, 0x34, 0x12], .callNc 0x1234),
    ([0b11011000], .retC), ([0b11011010, 0x34, 0x12], .jpC 0x1234), ([0b11011100, 0x34, 0x12], .callC 0x1234),
    ([0b11000011, 0x34, 0x12], .jp 0x1234), ([0b11001001], .ret), ([0b11001101, 0x34, 0x12], .call 0x1234),
    ([0b11101001], .jpHlInd), ([0b11111001], .ldSpHl), ([0b11110011], .di), ([0b11111011], .ei) ]

/-- Words of R104 for the Z80. -/
def z80Words : List (List Byte × Instr) :=
  [ ([0b11100000], .retPo), ([0b11100010, 0x34, 0x12], .jpPo 0x1234), ([0b11100100, 0x34, 0x12], .callPo 0x1234),
    ([0b11101000], .retPe), ([0b11101010, 0x34, 0x12], .jpPe 0x1234), ([0b11101100, 0x34, 0x12], .callPe 0x1234),
    ([0b11110000], .retP), ([0b11110010, 0x34, 0x12], .jpP 0x1234), ([0b11110100, 0x34, 0x12], .callP 0x1234),
    ([0b11111000], .retM), ([0b11111010, 0x34, 0x12], .jpM 0x1234), ([0b11111100, 0x34, 0x12], .callM 0x1234),
    ([0b00100010, 0x34, 0x12], .ldNnIndHl 0x1234), ([0b00101010, 0x34, 0x12], .ldHlNnInd 0x1234),
    ([0b00110010, 0x34, 0x12], .ldNnIndAZ80 0x1234), ([0b00111010, 0x34, 0x12], .ldANnIndZ80 0x1234),
    ([0b11101101, 0b10100000], .ldi) ]

/-- Words of R104 for the LR35902. -/
def lrWords : List (List Byte × Instr) :=
  [ ([0b00100010], .ldHlIncA), ([0b00101010], .ldAHlInc), ([0b00110010], .ldHlDecA), ([0b00111010], .ldAHlDec),
    ([0b11011001], .reti), ([0b11100000, 0x5A], .ldhNIndA 0x5A), ([0b11100010], .ldCIndA),
    ([0b11101000, 0x5A], .addSpN 0x5A), ([0b11101010, 0x34, 0x12], .ldNnIndALr 0x1234),
    ([0b11110000, 0x5A], .ldhANInd 0x5A), ([0b11110010], .ldACInd), ([0b11111000, 0x5A], .ldHlSpN 0x5A),
    ([0b11111010, 0x34, 0x12], .ldANnIndLr 0x1234), ([0b11001011, 0b00110000], .swapB),
    ([0b11001011, 0b00110001], .swapC), ([0b11001011, 0b00110010], .swapD), ([0b11001011, 0b00110011], .swapE),
    ([0b11001011, 0b00110100], .swapH), ([0b11001011, 0b00110101], .swapL), ([0b11001011, 0b00110110], .swapHlInd),
    ([0b11001011, 0b00110111], .swapA) ]

theorem test_decode_commonWords1_z80 : commonWords1.all (fun p => decodesTo .z80 p.1 p.2) = true := by decide
theorem test_decode_commonWords1_lr35902 : commonWords1.all (fun p => decodesTo .lr35902 p.1 p.2) = true := by decide
theorem test_decode_commonWords2_z80 : commonWords2.all (fun p => decodesTo .z80 p.1 p.2) = true := by decide
theorem test_decode_commonWords2_lr35902 : commonWords2.all (fun p => decodesTo .lr35902 p.1 p.2) = true := by decide
theorem test_decode_commonWords3_z80 : commonWords3.all (fun p => decodesTo .z80 p.1 p.2) = true := by decide
theorem test_decode_commonWords3_lr35902 : commonWords3.all (fun p => decodesTo .lr35902 p.1 p.2) = true := by decide
theorem test_decode_commonWords4_z80 : commonWords4.all (fun p => decodesTo .z80 p.1 p.2) = true := by decide
theorem test_decode_commonWords4_lr35902 : commonWords4.all (fun p => decodesTo .lr35902 p.1 p.2) = true := by decide
theorem test_decode_commonWords5_z80 : commonWords5.all (fun p => decodesTo .z80 p.1 p.2) = true := by decide
theorem test_decode_commonWords5_lr35902 : commonWords5.all (fun p => decodesTo .lr35902 p.1 p.2) = true := by decide
theorem test_decode_z80Words_z80 : z80Words.all (fun p => decodesTo .z80 p.1 p.2) = true := by decide
theorem test_decode_lrWords_lr35902 : lrWords.all (fun p => decodesTo .lr35902 p.1 p.2) = true := by decide

/-- Words that no row of R104 lists: D1 to D9 of `95_test_vectors.md` part 2.10, and R108's examples. -/
theorem test_unlisted_words_refused :
    [[0x76], [0xED, 0xA0], [0xCB, 0x00], [0xE4, 0x00, 0x00], [0xFF], [0x07], [0xC5], [0x10], [0x08]].all
        (refuses .lr35902) = true ∧
      [[0x76], [0xCB, 0x37], [0xD9], [0xED, 0xB0], [0xFF], [0xDD, 0x21], [0xFD], [0x10], [0x08]].all
        (refuses .z80) = true := by decide

/-- Bytes that end inside an instruction. -/
theorem test_truncated_refused :
    [[], [0x01], [0x01, 0x34], [0x06], [0x18], [0xCB]].all (refuses .lr35902) = true := by decide

/-- The opcode bytes follow the field patterns of R104 and R105: register, pair and condition codes in their places. -/
theorem test_field_patterns_registers :
    copyRows.all (fun p => encode p.1 == [BitVec.ofNat 8 (0x40 + 8 * regCode p.2.1 + regCode p.2.2)]) = true ∧
    immRows.all (fun p => encode (p.1 9) == [BitVec.ofNat 8 (0x06 + 8 * regCode p.2), 9]) = true ∧
    loadHlRows.all (fun p => encode p.1 == [BitVec.ofNat 8 (0x46 + 8 * regCode p.2)]) = true ∧
    storeHlRows.all (fun p => encode p.1 == [BitVec.ofNat 8 (0x70 + regCode p.2)]) = true ∧
    incRows.all (fun p => encode p.1 == [BitVec.ofNat 8 (0x04 + 8 * regCode p.2)]) = true ∧
    decRows.all (fun p => encode p.1 == [BitVec.ofNat 8 (0x05 + 8 * regCode p.2)]) = true ∧
    addRows.all (fun p => encode p.1 == [BitVec.ofNat 8 (0x80 + regCode p.2)]) = true ∧
    swapRows.all (fun p => encode p.1 == [0xCB, BitVec.ofNat 8 (0x30 + regCode p.2)]) = true := by decide

/-- The same for pairs and conditions. -/
theorem test_field_patterns_pairs_and_conditions :
    pairImmRows.all (fun p => encode (p.1 0x1234) == [BitVec.ofNat 8 (0x01 + 16 * pairCode p.2), 0x34, 0x12]) = true ∧
    incPairRows.all (fun p => encode p.1 == [BitVec.ofNat 8 (0x03 + 16 * pairCode p.2)]) = true ∧
    decPairRows.all (fun p => encode p.1 == [BitVec.ofNat 8 (0x0B + 16 * pairCode p.2)]) = true ∧
    addHlRows.all (fun p => encode p.1 == [BitVec.ofNat 8 (0x09 + 16 * pairCode p.2)]) = true ∧
    jumpRows.all (fun p => encode (p.1 0x1234) == [BitVec.ofNat 8 (0xC2 + 8 * condCode p.2), 0x34, 0x12]) = true ∧
    callRows.all (fun p => encode (p.1 0x1234) == [BitVec.ofNat 8 (0xC4 + 8 * condCode p.2), 0x34, 0x12]) = true ∧
    returnRows.all (fun p => encode p.1 == [BitVec.ofNat 8 (0xC0 + 8 * condCode p.2)]) = true ∧
    relativeRows.all (fun p => encode (p.1 9) == [BitVec.ofNat 8 (0x20 + 8 * condCode p.2), 9]) = true := by decide

/-- Table words: a one-byte row, a row both variants read differently, a Z80 row, and the pages as the table writes them. -/
theorem test_table_words :
    decodeTableWord 8 0x00 = some .nop ∧ decodeTableWord 8 0x22 = some .ldHlIncA ∧
      decodeTableWord 24 0x123422 = some (.ldNnIndHl 0x1234) ∧ decodeTableWord 8 0xE4 = some (.callPo 0) ∧
      decodeTableWord 16 0xCB37 = some .swapA ∧ decodeTableWord 16 0xEDA0 = some .ldi ∧
      decodeTableWord 16 0x37CB = some .swapA ∧ decodeTableWord 8 0x76 = none := by decide

/-! ## A bench of the shape `95_test_vectors.md` uses -/

/-- The parameters of the vectors: RAM at 0xC000..0xDFFF and the APU. -/
def benchConfig (v : Variant) : Config :=
  { variant := v, ldhOffset := .signed
    peripherals := [{ first := 0xC000, last := 0xDFFF, device := .ram }, { first := 0xFF10, last := 0xFF3F, device := .apu }] }

/-- All of memory owned by one RAM window. -/
def fullConfig (v : Variant) : Config :=
  { variant := v, ldhOffset := .signed, peripherals := [{ first := 0, last := 0xFFFF, device := .ram }] }

/-- The launch state with the parameters `c`, the bytes `bs` at PC = 0xC000 and F = `f`. -/
def bench (c : Config) (f : Byte) (bs : List Byte) : State :=
  (((State.launch c Launch.zero).placeBytes 0xC000 bs).setPc 0xC000).setF f

/-- `bench` on the LR35902. -/
def benchLr (f : Byte) (bs : List Byte) : State := bench (benchConfig .lr35902) f bs

/-- `bench` on the Z80. -/
def benchZ80 (f : Byte) (bs : List Byte) : State := bench (benchConfig .z80) f bs

/-- What a step's next state shows, if there is one. -/
def afterStep {α : Type} (s : State) (show' : State → α) : Option α :=
  match step s with
  | .next t => some (show' t)
  | .fault _ => none
  | .refused _ => none

/-! ## 8-bit loads (`95_test_vectors.md` 2.1, S1, S4, and the examples of the rules) -/

/-- The first step of S1: `LD B,0x42`. -/
theorem test_ld_r_n : afterStep (benchLr 0x00 [0x06, 0x42]) (fun t => (t.cpu.b, t.cpu.pc, t.regF)) =
    some (0x42, 0xC002, 0x00) := by decide

/-- The first step of L1: `LD H,B` with B = 0x12. -/
theorem test_ld_r_r : afterStep ((benchZ80 0xFF [0x60]).setPair16 .bc 0x1234)
    (fun t => (t.cpu.h, t.cpu.b, t.cpu.pc, t.regF)) = some (0x12, 0x12, 0xC001, 0xFF) := by decide

/-- L2: an unowned address reads 0xFF. -/
theorem test_ld_a_hl_unowned : afterStep (((benchLr 0xF0 [0x7E]).setPair16 .hl 0x8000).setReg8 .a 0)
    (fun t => t.cpu.a) = some 0xFF := by decide

/-- `LD H,(HL)`: the address is HL before the load. -/
theorem test_ld_h_hl : afterStep (((benchLr 0xF0 [0x66]).setPair16 .hl 0xC100).write8 0xC100 0x99)
    (fun t => t.pair .hl) = some 0x9900 := by decide

/-- S4: `LD (HL+),A`. -/
theorem test_ldi_hl_a : afterStep (((benchLr 0xF0 [0x22]).setPair16 .hl 0xC005).setReg8 .a 0x77)
    (fun t => (t.peek8 0xC005, t.pair .hl, t.cpu.a, t.regF)) = some (0x77, 0xC006, 0x77, 0xF0) := by decide

/-- L7: `LD (HL+),A` at 0xFFFF wraps, the write to an unowned address is dropped. -/
theorem test_ldi_hl_a_wrap : afterStep (((benchLr 0xF0 [0x22]).setPair16 .hl 0xFFFF).setReg8 .a 0x12)
    (fun t => (t.peek8 0xFFFF, t.pair .hl)) = some (0xFF, 0x0000) := by decide

/-- L3: `LD (HL-),A`. -/
theorem test_ldd_hl_a : afterStep (((benchLr 0xF0 [0x32]).setPair16 .hl 0xC100).setReg8 .a 0x12)
    (fun t => (t.peek8 0xC100, t.pair .hl)) = some (0x12, 0xC0FF) := by decide

/-- L4 and L5: `LD A,(HL-)` and `LD A,(HL+)`. -/
theorem test_ldd_ldi_a_hl :
    afterStep (((benchLr 0xF0 [0x3A]).setPair16 .hl 0xC100).write8 0xC100 0x99) (fun t => (t.cpu.a, t.pair .hl)) =
      some (0x99, 0xC0FF) ∧
    afterStep (((benchLr 0xF0 [0x2A]).setPair16 .hl 0xC100).write8 0xC100 0x99) (fun t => (t.cpu.a, t.pair .hl)) =
      some (0x99, 0xC101) := by decide

/-- The example of R147: `LD (C),A` with C = 0x12 writes 0xF3 to 0xFF12. -/
theorem test_ld_c_a : afterStep (((benchLr 0xF0 [0xE2]).setReg8 .c 0x12).setReg8 .a 0xF3)
    (fun t => (t.peek8 0xFF12, t.bus.apu.pulse1.startingVolume, t.bus.apu.pulse1.envelopePeriod)) =
    some (0xF3, 15, 3) := by decide

/-- The example of R148: `LD A,(C)`. -/
theorem test_ld_a_c : afterStep (((benchLr 0xF0 [0xF2]).setReg8 .c 0x11).write8 0xFF11 0x80) (fun t => t.cpu.a) =
    some 0x80 := by decide

/-- L9 and L10: the address of `LDH (n),A` under both values of `LDH_OFFSET`. -/
theorem test_ldh_addresses :
    [0x11, 0x7F, 0x80, 0xFF].map (ldhTarget .signed) = [0xFF11, 0xFF7F, 0xFE80, 0xFEFF] ∧
      [0x11, 0x7F, 0x80, 0xFF].map (fun n => highAddr n true) = [0xFF11, 0xFF7F, 0xFE80, 0xFEFF] ∧
      [0x11, 0x7F, 0x80, 0xFF].map (fun n => highAddr n false) = [0xFF11, 0xFF7F, 0xFF80, 0xFFFF] := by decide

/-- L9: `LDH (0x80),A` writes 0xFE80 with signed offsets; L10: 0xFF80 with unsigned ones. -/
theorem test_ldh_store :
    afterStep ((bench (fullConfig .lr35902) 0xF0 [0xE0, 0x80]).setReg8 .a 0x5A) (fun t => (t.peek8 0xFE80, t.peek8 0xFF80)) =
      some (0x5A, 0) ∧
    afterStep ((bench { fullConfig .lr35902 with ldhOffset := .unsigned } 0xF0 [0xE0, 0x80]).setReg8 .a 0x5A)
      (fun t => (t.peek8 0xFE80, t.peek8 0xFF80)) = some (0, 0x5A) := by decide

/-- The example of R150: `LDH A,(0x16)`. -/
theorem test_ldh_load : afterStep ((benchLr 0xF0 [0xF0, 0x16]).write8 0xFF16 0xBF) (fun t => t.cpu.a) = some 0xBF := by
  decide

/-! ## 16-bit loads and the block move -/

/-- L11: `LD (nn),HL` across the end of memory. -/
theorem test_ld_nn_hl_wrap : afterStep ((bench (fullConfig .z80) 0 [0x22, 0xFF, 0xFF]).setPair16 .hl 0xBEEF)
    (fun t => (t.peek8 0xFFFF, t.peek8 0x0000)) = some (0xEF, 0xBE) := by decide

/-- L12: `LD HL,(nn)` across the end of memory. -/
theorem test_ld_hl_nn_wrap :
    afterStep (((bench (fullConfig .z80) 0 [0x2A, 0xFF, 0xFF]).write8 0xFFFF 0x34).write8 0x0000 0x12)
      (fun t => t.pair .hl) = some 0x1234 := by decide

/-- P1 of part 1.2: `LD BC,0x1234` = `01 34 12`. -/
theorem test_ld_bc_nn : afterStep (benchLr 0xF0 [0x01, 0x34, 0x12]) (fun t => (t.cpu.b, t.cpu.c, t.cpu.pc)) =
    some (0x12, 0x34, 0xC003) := by decide

/-- `ADD SP,n` and `LD HL,SP+n` with SP = 0xFFF8, e = 0x08 (2.6, S4): the result is 0 and Z is 0. -/
theorem test_add_sp_and_ld_hl_sp :
    afterStep ((benchLr 0xF0 [0xE8, 0x08]).setSp 0xFFF8) (fun t => (t.cpu.sp, t.regF)) = some (0x0000, 0x30) ∧
    afterStep ((benchLr 0xF0 [0xF8, 0x08]).setSp 0xFFF8) (fun t => (t.pair .hl, t.cpu.sp, t.regF)) =
      some (0x0000, 0xFFF8, 0x30) := by decide

/-- `ADD SP,n`, 2.6 S1, S2, S6, S7: SP, e, result, F. -/
theorem test_add_sp_table :
    [(0xD000, 0xFE, 0xCFFE, 0x00), (0x0000, 0xFF, 0xFFFF, 0x00), (0xD000, 0x80, 0xCF80, 0x00),
      (0xD00F, 0x01, 0xD010, 0x20)].all (fun (p : Word × Byte × Word × Byte) =>
      afterStep ((benchLr 0xF0 [0xE8, p.2.1]).setSp p.1) (fun t => (t.cpu.sp, t.regF)) == some p.2.2) = true := by decide

/-- LDI, 2.8 B1 to B3 from F0 = 0xFF and F0 = 0x00: BC, F0, new BC, F. -/
theorem test_ldi :
    [(0x0002, 0xFF, 0x0001, 0xED), (0x0001, 0xFF, 0x0000, 0xE9), (0x0000, 0xFF, 0xFFFF, 0xED), (0x0002, 0x00, 0x0001, 0x04),
      (0x0001, 0x00, 0x0000, 0x00)].all (fun (p : Word × Byte × Word × Byte) =>
      afterStep (((((benchZ80 p.2.1 [0xED, 0xA0]).setPair16 .hl 0xC100).setPair16 .de 0xC200).setPair16 .bc p.1).write8
        0xC100 0xAB) (fun t => (t.pair .bc, t.regF, t.peek8 0xC200, t.pair .hl, t.pair .de, t.cpu.pc)) ==
        some (p.2.2.1, p.2.2.2, 0xAB, 0xC101, 0xC201, 0xC002)) = true := by decide

/-! ## Arithmetic (2.3 to 2.7) -/

/-- I1 to I4: `INC B` from F0 = 0: old B, new B, F on the LR35902, F on the Z80. -/
theorem test_inc_b :
    [(0xFF, 0x00, 0xA0, 0x50), (0x0F, 0x10, 0x20, 0x10), (0x7F, 0x80, 0x20, 0x94), (0x00, 0x01, 0x00, 0x00)].all
      (fun (p : Byte × Byte × Byte × Byte) =>
        afterStep ((benchLr 0x00 [0x04]).setReg8 .b p.1) (fun t => (t.cpu.b, t.regF)) == some (p.2.1, p.2.2.1) &&
          afterStep ((benchZ80 0x00 [0x04]).setReg8 .b p.1) (fun t => (t.cpu.b, t.regF)) == some (p.2.1, p.2.2.2)) =
      true := by decide

/-- I5 to I8: `DEC B` from F0 = 0xF0 and 0xFF: old B, new B, F on the LR35902, F on the Z80. -/
theorem test_dec_b :
    [(0x01, 0x00, 0xD0, 0x6B), (0x10, 0x0F, 0x70, 0x3B), (0x00, 0xFF, 0x70, 0xBB), (0x80, 0x7F, 0x70, 0x3F)].all
      (fun (p : Byte × Byte × Byte × Byte) =>
        afterStep ((benchLr 0xF0 [0x05]).setReg8 .b p.1) (fun t => (t.cpu.b, t.regF)) == some (p.2.1, p.2.2.1) &&
          afterStep ((benchZ80 0xFF [0x05]).setReg8 .b p.1) (fun t => (t.cpu.b, t.regF)) == some (p.2.1, p.2.2.2)) =
      true := by decide

/-- I9: `INC (HL)` of an unowned byte; and the example of R193: `DEC (HL)` of 0x01. -/
theorem test_inc_dec_hl :
    afterStep ((benchLr 0xF0 [0x34]).setPair16 .hl 0x8000) (fun t => (t.peek8 0x8000, t.regF)) = some (0xFF, 0xB0) ∧
    afterStep (((benchLr 0x00 [0x35]).setPair16 .hl 0xC100).write8 0xC100 0x01) (fun t => (t.peek8 0xC100, t.regF)) =
      some (0x00, 0xC0) := by decide

/-- I10 and I11: `INC HL` and `DEC BC`. -/
theorem test_inc_dec_pair :
    afterStep ((benchLr 0xF0 [0x23]).setPair16 .hl 0xC0FF) (fun t => (t.pair .hl, t.regF)) = some (0xC100, 0xF0) ∧
    afterStep ((benchLr 0xF0 [0x0B]).setPair16 .bc 0x0000) (fun t => (t.pair .bc, t.regF)) = some (0xFFFF, 0xF0) := by
  decide

/-- A1 to A7: `ADD A,B` from F0 = 0: A, B, new A, F on the LR35902, F on the Z80. -/
theorem test_add_a_b :
    [(0x3A, 0xC6, 0x00, 0xB0, 0x51), (0x7F, 0x01, 0x80, 0x20, 0x94), (0x80, 0x80, 0x00, 0x90, 0x45),
      (0x10, 0x22, 0x32, 0x00, 0x00), (0x0F, 0x01, 0x10, 0x20, 0x10), (0x00, 0x00, 0x00, 0x80, 0x40)].all
      (fun (p : Byte × Byte × Byte × Byte × Byte) =>
        afterStep (((benchLr 0x00 [0x80]).setReg8 .a p.1).setReg8 .b p.2.1) (fun t => (t.cpu.a, t.regF)) ==
            some (p.2.2.1, p.2.2.2.1) &&
          afterStep (((benchZ80 0x00 [0x80]).setReg8 .a p.1).setReg8 .b p.2.1) (fun t => (t.cpu.a, t.regF)) ==
            some (p.2.2.1, p.2.2.2.2)) = true := by decide

/-- `ADD A,A` with A = 0x80 (R196) and `ADD A,0x01` (the example of R198). -/
theorem test_add_a_a_and_n :
    afterStep ((benchLr 0x00 [0x87]).setReg8 .a 0x80) (fun t => (t.cpu.a, t.regF)) = some (0x00, 0x90) ∧
    afterStep ((benchLr 0x00 [0xC6, 0x01]).setReg8 .a 0x0F) (fun t => (t.cpu.a, t.regF)) = some (0x10, 0x20) := by decide

/-- H1 to H4: `ADD HL,BC` from F0 = 0xF0 and 0xFF: HL, BC, new HL, F on the LR35902, F on the Z80. -/
theorem test_add_hl_bc :
    [(0x8A23, 0x0605, 0x9028, 0xA0, 0xFC), (0xFFFF, 0x0001, 0x0000, 0xB0, 0xFD), (0x0FFF, 0x0001, 0x1000, 0xA0, 0xFC),
      (0x8000, 0x8000, 0x0000, 0x90, 0xED)].all
      (fun (p : Word × Word × Word × Byte × Byte) =>
        afterStep (((benchLr 0xF0 [0x09]).setPair16 .hl p.1).setPair16 .bc p.2.1) (fun t => (t.pair .hl, t.regF)) ==
            some (p.2.2.1, p.2.2.2.1) &&
          afterStep (((benchZ80 0xFF [0x09]).setPair16 .hl p.1).setPair16 .bc p.2.1) (fun t => (t.pair .hl, t.regF)) ==
            some (p.2.2.1, p.2.2.2.2)) = true := by decide

/-- 2.7: `SWAP A`; and the example of R202: `SWAP (HL)`. -/
theorem test_swap :
    [(0xF1, 0x1F, 0x00), (0x00, 0x00, 0x80), (0xA5, 0x5A, 0x00), (0x0F, 0xF0, 0x00)].all
      (fun (p : Byte × Byte × Byte) =>
        afterStep ((benchLr 0xF0 [0xCB, 0x37]).setReg8 .a p.1) (fun t => (t.cpu.a, t.regF)) == some p.2) = true ∧
    afterStep (((benchLr 0xF0 [0xCB, 0x36]).setPair16 .hl 0xC100).write8 0xC100 0xA5)
      (fun t => (t.peek8 0xC100, t.regF, t.cpu.pc)) = some (0x5A, 0x00, 0xC002) := by decide

/-! ## Control transfer (2.9) -/

/-- C1 to C3: `JR e` at 0xC000. -/
theorem test_jr : [(0x05, 0xC007), (0xFB, 0xBFFD), (0xFE, 0xC000)].all (fun (p : Byte × Word) =>
    afterStep (benchLr 0xF0 [0x18, p.1]) (fun t => t.cpu.pc) == some p.2) = true := by decide

/-- C4: `CALL 0xC010` with SP = 0xD000. -/
theorem test_call : afterStep ((benchLr 0xF0 [0xCD, 0x10, 0xC0]).setSp 0xD000)
    (fun t => (t.cpu.sp, t.peek8 0xCFFE, t.peek8 0xCFFF, t.cpu.pc)) = some (0xCFFE, 0x03, 0xC0, 0xC010) := by decide

/-- The corner case of R226: SP = 0x0001 pushes to 0xFFFF and 0x0000. -/
theorem test_call_wrap : afterStep ((bench (fullConfig .z80) 0 [0xCD, 0x10, 0xC0]).setSp 0x0001)
    (fun t => (t.cpu.sp, t.peek8 0xFFFF, t.peek8 0x0000)) = some (0xFFFF, 0x03, 0xC0) := by decide

/-- C6 and C7: `RET Z` not taken and `RET NZ` taken, from F0 = 0. -/
theorem test_ret_cc :
    [(0xC8, 0xC001, 0xCFFE), (0xC0, 0xC003, 0xD000)].all (fun (p : Byte × Word × Word) =>
      afterStep (((benchLr 0x00 [p.1]).setSp 0xCFFE).write16 0xCFFE 0xC003) (fun t => (t.cpu.pc, t.cpu.sp)) ==
        some p.2) = true := by decide

/-- C8 to C10: `JP PO`, `JP PE`, `JP P`, `JP M` from F0 = 0x00, 0x04 and 0x80. -/
theorem test_jp_cc_z80 :
    [(0x00, [0xC200, 0xC003, 0xC200, 0xC003]), (0x04, [0xC003, 0xC200, 0xC200, 0xC003]),
      (0x80, [0xC200, 0xC003, 0xC003, 0xC200])].all (fun (p : Byte × List Word) =>
      [0xE2, 0xEA, 0xF2, 0xFA].map (fun b => afterStep (benchZ80 p.1 [b, 0x00, 0xC2]) (fun t => t.cpu.pc)) ==
        p.2.map some) = true := by decide

/-- C11: `JP (HL)`. -/
theorem test_jp_hl : afterStep ((benchLr 0xF0 [0xE9]).setPair16 .hl 0xC300) (fun t => t.cpu.pc) = some 0xC300 := by decide

/-- The example of R236: `RETI` from IFF1 = IFF2 = 0. -/
theorem test_reti : afterStep (((benchLr 0xF0 [0xD9]).setSp 0xCFFE).write16 0xCFFE 0xC003)
    (fun t => (t.cpu.pc, t.cpu.sp, t.cpu.iff1, t.cpu.iff2)) = some (0xC003, 0xD000, true, true) := by decide

/-! ## EI, DI and fetch (2.10, 2.2) -/

/-- E1: after `EI` alone nothing is enabled. -/
theorem test_ei : afterStep (benchLr 0xF0 [0xFB])
    (fun t => (t.cpu.iff1, t.cpu.iff2, t.cpu.eiPending, t.cpu.pc)) = some (false, false, true, 0xC001) := by decide

/-- The second steps of E2, E3 and E4: `NOP`, `EI`, `DI` with an `EI` pending. -/
theorem test_ei_deferred : [0x00, 0xFB, 0xF3].all (fun b =>
    afterStep ((benchLr 0xF0 [b]).setEiPending true) (fun t => (t.cpu.iff1, t.cpu.iff2, t.cpu.eiPending, t.cpu.pc)) ==
      some (true, true, false, 0xC001)) = true := by decide

/-- F2: `LD A,n` with the opcode at 0xFFFF and the immediate at 0x0000. -/
theorem test_fetch_wraps :
    afterStep ((((bench (fullConfig .z80) 0 []).write8 0xFFFF 0x3E).write8 0x0000 0x99).setPc 0xFFFF)
      (fun t => (t.cpu.a, t.cpu.pc)) = some (0x99, 0x0001) := by decide

/-- What a decode error leaves: the final status, PC, IFF1 and `ei_pending`. -/
def decodeErrorOf (s : State) : Option (Status × Word × Bool × Bool) :=
  match step s with
  | .fault (.decodeError t) => some (t.status, t.cpu.pc, t.cpu.iff1, t.cpu.eiPending)
  | .fault (.stopped _) => none
  | .next _ => none
  | .refused _ => none

/-- D1 to D8. -/
theorem test_decode_errors :
    [([0x76], 1), ([0xED, 0xA0], 1), ([0xCB, 0x00], 2), ([0xE4, 0x00, 0x00], 1), ([0xFF], 1)].all
      (fun (p : List Byte × Nat) => decodeErrorOf (benchLr 0xF0 p.1) ==
        some (.fatal (.decodeError 0xC000 (p.1.take p.2)), 0xC000, false, false)) = true ∧
    [([0xCB, 0x37], 2), ([0xD9], 1), ([0xED, 0xB0], 2), ([0xDD, 0x21], 1)].all
      (fun (p : List Byte × Nat) => decodeErrorOf (benchZ80 0xFF p.1) ==
        some (.fatal (.decodeError 0xC000 (p.1.take p.2)), 0xC000, false, false)) = true := by decide

/-- The second step of E5: `76` with an `EI` pending; the second step of D10: PC in unowned memory. -/
theorem test_decode_error_corners :
    decodeErrorOf ((benchLr 0xF0 [0x76]).setEiPending true) =
      some (.fatal (.decodeError 0xC000 [0x76]), 0xC000, true, false) ∧
    decodeErrorOf ((benchLr 0xF0 []).setPc 0x8000) = some (.fatal (.decodeError 0x8000 [0xFF]), 0x8000, false, false) := by
  decide

/-- `withFetchWord`: the word is fetched and run by the next step after reset, on the variant that has it. -/
theorem test_withFetchWord :
    afterStep (State.reset.withFetchWord 16 0x4206) (fun t => (t.cpu.b, t.cpu.pc)) = some (0x42, 2) ∧
    afterStep (State.reset.withFetchWord 16 0xEDA0) (fun t => (t.pair .hl, t.cpu.pc)) = some (1, 2) ∧
    afterStep (State.reset.withFetchWord 8 0xE4) (fun t => (t.cpu.pc, t.cpu.sp)) = some (0, 0xFFFD) := by decide

/-! ## The APU (S5, S6, 2.11) -/

/-- Register writes in order. -/
def writes (u : Apu) (ws : List (Word × Byte)) : Apu := ws.foldl (fun u p => u.write p.1 p.2) u

/-- S5: frequency low then high; then the trigger bit. -/
theorem test_frequency_writes :
    (writes Apu.initial [(0xFF13, 0xFF), (0xFF14, 0x07)]).pulse1.frequency = 0x7FF ∧
      (writes Apu.initial [(0xFF13, 0xFF), (0xFF14, 0x07), (0xFF14, 0x80)]).pulse1 =
        { Pulse.initial with enabled := true, lengthCounter := 64, frequency := 0x0FF } := by decide

/-- S6 with 0xA3: the trigger reloads counters and volume. -/
theorem test_trigger : (writes Apu.initial [(0xFF12, 0xA3), (0xFF14, 0x80)]).pulse1 =
    { Pulse.initial with startingVolume := 10, envelopePeriod := 3, envelopeCounter := 3, volume := 10, lengthCounter := 64,
                         enabled := true } := by decide

/-- U1: pulse 2, and pulse 1 is untouched. -/
theorem test_pulse2_writes :
    (writes Apu.initial [(0xFF16, 0x80), (0xFF17, 0x70), (0xFF18, 0x34), (0xFF19, 0x82)]).pulse2 =
        { Pulse.initial with duty := 2, lengthCounter := 64, startingVolume := 7, volume := 7, frequency := 0x234,
                             enabled := true } ∧
      (writes Apu.initial [(0xFF16, 0x80), (0xFF17, 0x70), (0xFF18, 0x34), (0xFF19, 0x82)]).pulse1 = Pulse.initial := by
  decide

/-- U2: storage with no effect. -/
theorem test_storage_registers :
    (writes Apu.initial [(0xFF15, 0xAA), (0xFF30, 0x12)]) =
      { Apu.initial with shadow := [(0xFF15, 0xAA), (0xFF30, 0x12)] } := by decide

/-- P7: the length counter at 1 expires on one tick. -/
theorem test_length_expires :
    let u := (writes Apu.initial [(0xFF11, 0x3F), (0xFF14, 0xC0)]).clock256hz
    (u.pulse1.lengthCounter, u.pulse1.enabled, u.seqIndex) = (0, false, 1) := by decide

/-- U7 at index 1: stored, then the second check disables. U12: the first check disables and nothing is stored. -/
theorem test_sweep :
    let tick (ws : List (Word × Byte)) : Pulse := (({ writes Apu.initial ws with seqIndex := 1 } : Apu).clock256hz).pulse1
    ((tick [(0xFF10, 0x11), (0xFF14, 0x84)]).frequency, (tick [(0xFF10, 0x11), (0xFF14, 0x84)]).enabled) =
        (0x600, false) ∧
      ((tick [(0xFF10, 0x11), (0xFF14, 0x86)]).frequency, (tick [(0xFF10, 0x11), (0xFF14, 0x86)]).enabled) =
        (0x600, false) ∧
      ((tick [(0xFF10, 0x1A), (0xFF14, 0x84)]).frequency, (tick [(0xFF10, 0x1A), (0xFF14, 0x84)]).enabled) =
        (0x300, true) := by decide

/-- U5: volume 14 goes to 15 and stays there; U6: period 0 does nothing. -/
theorem test_envelope :
    let p (v : BitVec 4) (per : BitVec 3) : Pulse :=
      { Pulse.initial with volume := v, envelopeAddMode := true, envelopePeriod := per, envelopeCounter := per }
    (p 14 1).envelopeTick = p 15 1 ∧ (p 15 1).envelopeTick = p 15 1 ∧ (p 5 0).envelopeTick = p 5 0 ∧
      (p 5 3).envelopeTick = { p 5 3 with envelopeCounter := 2 } := by decide

/-! ## Memory -/

/-- The canonical form: written back to what an unlisted address reads as, a byte is unlisted. -/
theorem test_memory_canonical :
    ((Memory.write [] 5 1).write 3 2).write 5 0 = [(3, 2)] ∧ ((Memory.write [] 5 1).write 3 2).read 5 = 1 := by decide

/-! ## Cases that meet the hypotheses of the statements -/

/-- An immediate operand with every bit pattern is admitted on its variant. -/
theorem witness_DecodeOfEncode : (Instr.ldhNIndA 0xFF).runsOn .lr35902 = true ∧ (Instr.jpM 0xFFFF).runsOn .z80 = true := by
  decide

theorem witness_EncodeOfDecode : decode .z80 [0x01, 0x34, 0x12, 0x99] = .ok (.ldBcNn 0x1234, [0x99]) := rfl

/-- A state in which it is the CPU's turn, with `LD B,0x42` at PC. -/
def ready : State := benchLr 0xF0 [0x06, 0x42]

theorem witness_CpuTurn : CpuTurn ready ready := .idle rfl rfl rfl

/-- `ready` with a schedule that gives the CPU the turn, and inside a host call that ends at 0xD000. -/
def scheduled : State := { ready with schedule := [.cpu, .host .clock256hz] }

@[inherit_doc scheduled]
def inCall : State := { ready with callReturn := some 0xD000 }

/-- The other two ways the CPU gets the turn; each of these states steps. -/
theorem witness_CpuTurn_scheduled_inCall :
    (∃ u t, CpuTurn scheduled u ∧ u.schedule = [.host .clock256hz] ∧ step scheduled = .next t) ∧
    (∃ t, CpuTurn inCall inCall ∧ step inCall = .next t) :=
  ⟨⟨_, _, .scheduled _ rfl rfl rfl, rfl, rfl⟩, ⟨_, .inCall 0xD000 rfl rfl (by decide), rfl⟩⟩

/-- A scheduled CPU step runs the instruction at PC and takes its own entry off the schedule. -/
theorem test_scheduled_cpu_step : afterStep scheduled (fun t => (t.cpu.b, t.cpu.pc, t.schedule)) =
    some (0x42, 0xC002, [.host .clock256hz]) := by decide

theorem witness_StepExecutesDecodedInstruction : ∃ t, CpuTurn ready ready ∧
    decode ready.config.variant (fetch ready).1 = .ok (.ldBN 0x42, []) ∧
    exec (.ldBN 0x42) ((fetch ready).2.setPc (ready.cpu.pc + BitVec.ofNat 16 (fetch ready).1.length)) = .next t :=
  ⟨_, witness_CpuTurn, rfl, rfl⟩

theorem ready_storage (a : Word) (h : ownerOf ready.config a = some .ram) (id : Nat) :
    ownerOf ready.config a ≠ some (.platform id) := by rw [h]; intro h2; cases h2

theorem witness_StepRunsInstructionAtPc : ∃ t, CpuTurn ready ready ∧ (Instr.ldBN 0x42).runsOn ready.config.variant = true ∧
    BytesAt ready ready.cpu.pc (encode (.ldBN 0x42)) ∧
    exec (.ldBN 0x42) (ready.setPc (ready.cpu.pc + BitVec.ofNat 16 (encode (.ldBN 0x42)).length)) = .next t :=
  ⟨_, witness_CpuTurn, rfl, ⟨rfl, ready_storage _ rfl, rfl, ready_storage _ rfl, trivial⟩, rfl⟩

theorem witness_EiTakesEffectAfterNextInstruction :
    ∃ s t : State, CpuTurn s s ∧ s.cpu.eiPending = true ∧ step s = .next t :=
  ⟨ready.setEiPending true, _, .idle rfl rfl rfl, rfl, rfl⟩

/-- An instruction that is neither `DI` nor `RETI`, and `EI`. -/
theorem witness_OnlyDiRetiEiTouchInterrupts :
    (∃ t, CpuTurn ready ready ∧ ready.cpu.eiPending = false ∧
      decode ready.config.variant (fetch ready).1 = .ok (.ldBN 0x42, []) ∧ step ready = .next t) ∧
    (∃ s t : State, CpuTurn s s ∧ s.cpu.eiPending = false ∧ decode s.config.variant (fetch s).1 = .ok (.ei, []) ∧
      step s = .next t) :=
  ⟨⟨_, witness_CpuTurn, rfl, rfl, rfl⟩, ⟨benchLr 0xF0 [0xFB], _, .idle rfl rfl rfl, rfl, rfl, rfl⟩⟩

/-- A first byte, a second byte of a page, and unowned memory. -/
theorem witness_UnrecognisedBytesAreFatal :
    (∃ (s : State) (e : Reject), CpuTurn s s ∧ decode s.config.variant (fetch s).1 = .error e ∧ (fetch s).1.length = 1) ∧
    (∃ (s : State) (e : Reject), CpuTurn s s ∧ decode s.config.variant (fetch s).1 = .error e ∧ (fetch s).1.length = 2) ∧
    (∃ s : State, CpuTurn s s ∧ ownerOf s.config s.cpu.pc = none) :=
  ⟨⟨benchLr 0xF0 [0x76], _, .idle rfl rfl rfl, rfl, rfl⟩, ⟨benchLr 0xF0 [0xCB, 0x00], _, .idle rfl rfl rfl, rfl, rfl⟩,
    ⟨ready.setPc 0x8000, .idle rfl rfl rfl, by decide⟩⟩

/-- A state that runs on, a state that meets a decode error, and a Fatal state. -/
theorem witness_OnlyDecodeErrorsStopTheMachine :
    (∃ t, ready.status = .running ∧ step ready = .next t) ∧
    (∃ (s t : State), s.status = .running ∧ step s = .fault (.decodeError t)) ∧
    (∃ (s : State) (r : FatalReason), s.status = Status.fatal r ∧ s.schedule = [Turn.host (.setA 1)]) :=
  ⟨⟨_, rfl, rfl⟩, ⟨benchLr 0xF0 [0x76], _, rfl, rfl⟩,
    ⟨{ ready with status := .fatal (.decodeError 0 [0x76]), schedule := [.host (.setA 1)] }, _, rfl, rfl⟩⟩

theorem ready_inv : Inv ready :=
  ⟨by decide, ⟨by decide, by decide, by decide, by decide, by decide, by decide, by decide⟩, by decide, rfl, rfl⟩

/-- A CPU step from a state that meets the invariant, and a host action. -/
theorem witness_StepKeepsInvariant :
    (∃ t, Inv ready ∧ step ready = .next t) ∧
    (∃ (s t : State), Inv s ∧ s.schedule = [Turn.host (.write8 0xFF14 0x80)] ∧ step s = .next t) := by
  have h := ready_inv
  exact ⟨⟨_, h, rfl⟩, ⟨{ ready with schedule := [.host (.write8 0xFF14 0x80)] }, _,
    ⟨h.config, h.bus, h.f_masked, h.iff_eq, h.running⟩, rfl, rfl⟩⟩

/-- Launch memory with a byte at the first and at the last address of a RAM window. -/
theorem witness_ConstructionMeetsInvariant : ∃ (c : Config) (v : Launch), c.wf ∧ v.mem.wf ∧ v.mem.within 0 0xFFFF ∧
    (∀ x ∈ v.mem, ownerOf c (BitVec.ofNat 16 x.1) = some .ram ∨ ownerOf c (BitVec.ofNat 16 x.1) = some .rom) ∧
    v.mem ≠ [] :=
  ⟨benchConfig .z80, { Launch.zero with mem := [(0xC000, 1), (0xDFFF, 2)] }, by decide, by decide, by decide, by decide,
    by decide⟩

theorem witness_ParametersAndInertRegistersNeverChange : ∃ t, Reaches ready t ∧ t ≠ ready :=
  ⟨_, .step rfl (.refl _), by decide⟩

/-- Two states that differ in every field that no program sees, one that runs on and one that stops. -/
theorem witness_ChannelsAndInertRegistersAreInvisible :
    let hide (s : State) : State :=
      { s with
        cpu := { s.cpu with i := 1, r := 2, iff1 := true, iff2 := true, shadow := { s.cpu.shadow with a := 3 } }
        bus := { s.bus with apu := { s.bus.apu with seqIndex := 2, pulse1 := { Pulse.initial with volume := 4 } } } }
    (∃ t, SameToPrograms ready (hide ready) ∧ CpuTurn ready ready ∧ step ready = .next t) ∧
    (∃ s t, SameToPrograms s (hide s) ∧ CpuTurn s s ∧ step s = .fault (.decodeError t)) := by
  refine ⟨⟨_, ⟨rfl, rfl, rfl, rfl, ?_, rfl, rfl, rfl, rfl, rfl, rfl, rfl⟩, .idle rfl rfl rfl, rfl⟩,
    ⟨benchLr 0xF0 [0x76], _, ⟨rfl, rfl, rfl, rfl, ?_, rfl, rfl, rfl, rfl, rfl, rfl, rfl⟩, .idle rfl rfl rfl, rfl⟩⟩
  all_goals intro r; cases r <;> rfl

theorem witness_OtherInstructionsKeepF :
    ¬ WritesFlags (.jpHlInd) ∧ ¬ WritesFlags (.ldBN 0x42) ∧ ∃ t, exec (.ldBN 0x42) ready = .next t := by
  refine ⟨?_, ?_, _, rfl⟩
  · rintro (h | ⟨n, h⟩ | ⟨e, h⟩ | ⟨e, h⟩)
    · revert h; decide
    all_goals cases h
  · rintro (h | ⟨n, h⟩ | ⟨e, h⟩ | ⟨e, h⟩)
    · revert h; decide
    all_goals cases h

theorem witness_OtherInstructionsStoreNothing : ¬ Stores .ldBHlInd ∧ (∃ t, exec .ldBHlInd ready = .next t) ∧
    ∀ id, ownerOf ready.config 0xC000 ≠ some (.platform id) := by
  refine ⟨?_, ⟨_, rfl⟩, ready_storage _ (by decide)⟩
  rintro (h | ⟨n, h⟩ | ⟨n, h⟩ | ⟨nn, h | h | h | h⟩ | ⟨p, hp, nn, h⟩)
  · revert h; decide
  all_goals first | cases h | skip
  simp only [callRows, List.mem_cons, List.not_mem_nil, or_false] at hp
  rcases hp with rfl | rfl | rfl | rfl | rfl | rfl | rfl | rfl <;> cases h

/-- Bits 0 and 7 are flags of the Z80, bits 4 and 7 of the LR35902; there is a state of each variant. -/
theorem witness_FlagsAreBitsOfF :
    flagBit (benchZ80 0xFF []).config.variant .c = some 0 ∧ flagBit (benchZ80 0xFF []).config.variant .s = some 7 ∧
      flagBit ready.config.variant .c = some 4 ∧ flagBit ready.config.variant .z = some 7 ∧
      ready.config.variant = .lr35902 := by decide

/-- Both variants of `ConditionsReadTheirFlag`, and of every clause with a variant as its premise. -/
theorem witness_variants : (benchZ80 0xFF []).config.variant = .z80 ∧ (benchLr 0xF0 []).config.variant = .lr35902 := by
  decide

/-- Every kind of owner, at both ends of its range. -/
def mapped : Config :=
  { variant := .lr35902, ldhOffset := .signed
    peripherals := [{ first := 0x0000, last := 0x7FFF, device := .rom }, { first := 0x8000, last := 0x8001, device := .platform 7 },
      { first := 0xC000, last := 0xDFFF, device := .ram }, { first := 0xFF10, last := 0xFF3F, device := .apu }] }

theorem witness_ByteAccessesReachTheOwner :
    disjointRanges mapped.peripherals ∧ mapped.wf ∧
      [0x0000, 0x7FFF].map (ownerOf mapped) = [some .rom, some .rom] ∧
      [0x8000, 0x8001].map (ownerOf mapped) = [some (.platform 7), some (.platform 7)] ∧
      [0x8002, 0xBFFF, 0xE000, 0xFF0F, 0xFF40, 0xFFFF].map (ownerOf mapped) = [none, none, none, none, none, none] ∧
      [0xC000, 0xDFFF].map (ownerOf mapped) = [some .ram, some .ram] ∧
      [0xFF10, 0xFF3F].map (ownerOf mapped) = [some .apu, some .apu] := by decide

/-- The address after 0xFFFF is 0x0000; a word of 0x12 and 0x34; RAM on both sides of the wrap. -/
theorem witness_WordsAreTwoBytesLowByteFirst :
    (0x0000 : Word).toNat = ((0xFFFF : Word).toNat + 1) % 65536 ∧
      (0x1234 : Word).toNat = (0x12 : Byte).toNat * 256 + (0x34 : Byte).toNat ∧
      ownerOf (fullConfig .z80) 0xFFFF = some .ram ∧ ownerOf (fullConfig .z80) 0x0000 = some .ram := by decide

/-- A list that registers and one that does not. -/
theorem witness_RegistrationFailsExactlyOnOverlap :
    registerAll [] mapped.peripherals = .ok mapped.peripherals ∧
      (register mapped.peripherals { first := 0x8001, last := 0xBFFF, device := .ram }).toOption = none := by
  exact ⟨rfl, rfl⟩

/-- The row lists are not empty, and hold what they should: 49, 7, 7, 7, 7, 7, 7, 7 and 4, 4, 4, 4 and 8, 4, 8, 8 rows. -/
theorem witness_rows :
    [copyRows.length, immRows.length, loadHlRows.length, storeHlRows.length, incRows.length, decRows.length,
        addRows.length, swapRows.length] = [49, 7, 7, 7, 7, 7, 7, 7] ∧
      [pairImmRows.length, incPairRows.length, decPairRows.length, addHlRows.length] = [4, 4, 4, 4] ∧
      [jumpRows.length, relativeRows.length, callRows.length, returnRows.length] = [8, 4, 8, 8] := by decide

/-- `LD rr,nn` of a pair that is not SP, and of SP. -/
theorem witness_LoadPair : (Reg16.bc ≠ .sp) ∧ Reg16.sp.parts = [] := by decide

/-- Each condition is true in one of two states and false in the other (F = 0x00 and F = 0xFF). -/
theorem witness_conditions :
    [Cond.nz, .nc, .po, .p].map (benchZ80 0x00 []).cond = [true, true, true, true] ∧
      [Cond.nz, .nc, .po, .p].map (benchZ80 0xFF []).cond = [false, false, false, false] ∧
      [Cond.z, .c, .pe, .m].map (benchZ80 0xFF []).cond = [true, true, true, true] ∧
      [Cond.z, .c, .pe, .m].map (benchZ80 0x00 []).cond = [false, false, false, false] := by decide

theorem witness_ReturnUndoesCall : ∃ s t u : State, ownerOf s.config (s.cpu.sp - 2) = some .ram ∧
    ownerOf s.config (s.cpu.sp - 1) = some .ram ∧ exec (.call 0xC010) s = .next t ∧ exec .ret t = .next u :=
  ⟨ready.setSp 0xD000, _, _, by decide, by decide, rfl, rfl⟩

/-- It is the host's turn, for each of its three mutators and its four bus accesses. -/
theorem witness_HostMutatorsWriteOneRegister :
    [HostAction.setPc 0x1234, .setSp 0x1234, .setA 0x56, .read8 0xFFFF, .read16 0xFFFF, .write8 0xFFFF 0x56,
      .write16 0xFFFF 0x1234].all (fun act =>
      let s : State := { ready with schedule := [.host act] }
      s.status == .running && s.callReturn == none && s.schedule == [.host act]) = true := by decide

/-- The host's `write16` at the end of memory, and its `write8`, each taking its own entry off the schedule. -/
theorem test_host_writes :
    afterStep { bench (fullConfig .z80) 0 [] with schedule := [.host (.write16 0xFFFF 0x1234)] }
      (fun t => (t.peek8 0xFFFF, t.peek8 0x0000, t.schedule)) = some (0x34, 0x12, []) ∧
    afterStep { ready with schedule := [.host (.write8 0xD000 0x77), .cpu] }
      (fun t => (t.peek8 0xD000, t.cpu.pc, t.schedule)) = some (0x77, 0xC000, [.cpu]) := by decide

/-- A host call that starts, one that is over, and one that goes on and answers a next state. -/
theorem witness_HostCallRunsUntilPcReturns :
    (∃ s : State, s.status = .running ∧ s.callReturn = none ∧ s.schedule = [Turn.host (.call 0xC010)]) ∧
    (∃ s : State, s.status = .running ∧ s.callReturn = some 0xC000 ∧ s.cpu.pc = 0xC000) ∧
    (∃ s t : State, s.status = .running ∧ s.callReturn = some 0xD000 ∧ s.cpu.pc ≠ 0xD000 ∧ step s = .next t) :=
  ⟨⟨{ ready with schedule := [.host (.call 0xC010)] }, rfl, rfl, rfl⟩, ⟨{ ready with callReturn := some 0xC000 }, rfl, rfl, rfl⟩,
    ⟨{ ready with callReturn := some 0xD000 }, _, rfl, rfl, by decide, rfl⟩⟩

/-- The host's tick with an APU on the bus and without one. -/
theorem witness_TickChangesApuOnly :
    (∃ s : State, s.status = .running ∧ s.callReturn = none ∧ s.schedule = [Turn.host .clock256hz] ∧
      apuPresent s.config = true) ∧
    (∃ s : State, s.status = .running ∧ s.callReturn = none ∧ s.schedule = [Turn.host .clock256hz] ∧
      apuPresent s.config = false) :=
  ⟨⟨{ ready with schedule := [.host .clock256hz] }, rfl, rfl, rfl, rfl⟩,
    ⟨{ bench (fullConfig .z80) 0 [] with schedule := [.host .clock256hz] }, rfl, rfl, rfl, rfl⟩⟩

/-- The window's ends, and the ends of the addresses with no effect. -/
theorem witness_WindowReadsShadowBytes :
    ownerOf ready.config 0xFF10 = some .apu ∧ ownerOf ready.config 0xFF3F = some .apu ∧
      [0xFF1A, 0xFF3F].all (fun (a : Word) => decide (0xFF1A ≤ a.toNat ∧ a.toNat ≤ 0xFF3F)) = true := by decide

/-- Counters 1 and 64 with the length enabled; a counter at 0; length not enabled. -/
theorem witness_LengthTickCountsDown :
    [(1 : BitVec 7), 64].all (fun c =>
        let p : Pulse := { Pulse.initial with lengthEnable := true, lengthCounter := c }
        p.lengthEnable && decide (0 < p.lengthCounter.toNat)) = true ∧
      ({ Pulse.initial with lengthEnable := true } : Pulse).lengthCounter.toNat = 0 ∧
      Pulse.initial.lengthEnable = false := by decide

/-- Frequencies 0x555 (moved: 0x7FF) and 0x556 (moved: 0x801) with shift 1 stand on either side of 2047; periods and
shifts of 0; and a sweep with `sweep_negate`. -/
theorem witness_SweepTickMovesFrequency :
    0x555 + 0x555 / 2 ^ 1 ≤ 2047 ∧ 2047 < 0x556 + 0x556 / 2 ^ 1 ∧
      ({ period := 1, negate := false, shift := 1 } : Sweep).period ≠ 0 ∧
      ({ period := 1, negate := false, shift := 1 } : Sweep).shift ≠ 0 ∧
      ({ period := 0, negate := false, shift := 1 } : Sweep).period = 0 ∧
      ({ period := 1, negate := false, shift := 0 } : Sweep).shift = 0 ∧
      ({ period := 1, negate := true, shift := 1 } : Sweep).negate = true := by decide

/-- Period 0; period 7 with counters 2, 1 and 0. -/
theorem witness_EnvelopeTickStepsVolume :
    Pulse.initial.envelopePeriod = 0 ∧
      (let p : Pulse := { Pulse.initial with envelopePeriod := 7, envelopeCounter := 2 }
       p.envelopePeriod ≠ 0 ∧ 1 < p.envelopeCounter.toNat) ∧
      (let p : Pulse := { Pulse.initial with envelopePeriod := 7, envelopeCounter := 1 }
       p.envelopePeriod ≠ 0 ∧ p.envelopeCounter.toNat ≤ 1) ∧
      (let p : Pulse := { Pulse.initial with envelopePeriod := 7 }
       p.envelopePeriod ≠ 0 ∧ p.envelopeCounter.toNat ≤ 1) := by decide

/-- Each index of the sequencer. -/
theorem witness_SequencerDerivesItsClocks :
    [(0 : BitVec 2), 1, 2, 3].map (fun i => ({ Apu.initial with seqIndex := i } : Apu).seqIndex.toNat) = [0, 1, 2, 3] := by
  decide

/-- An enabled and a disabled channel. -/
theorem witness_OutputsFollowTheChannel :
    ({ Pulse.initial with enabled := true } : Pulse).enabled = true ∧ Pulse.initial.enabled = false := by decide

end Sys2Proof.Tests
end

/-! F read as a whole and by flag (`10_state.md` R26, R27). -/

namespace Sys2Proof.Machine

/-- The mask of `10_state.md` R26 on the LR35902. -/
theorem maskF_of_lr {v : Variant} (hv : v = .lr35902) (f : Byte) : maskF v f = f &&& 0xF0 := by
  subst hv; rfl

theorem State.flag_eq_getBit {s : State} {fl : Flag} {k : Nat} (h : flagBit s.config.variant fl = some k) :
    s.flag fl = getBit s.regF k := by
  simp [State.flag, h]

/-- Once the bit is known, `State.getBit_regF_setFlag` in the words of R27: that bit and no other. -/
theorem State.getBit_regF_setFlag_of_flagBit {s : State} {fl : Flag} {k : Nat}
    (h : flagBit s.config.variant fl = some k) (b : Bool) (j : Nat) :
    getBit (s.setFlag fl b).regF j = if j = k then b else getBit s.regF j := by
  rw [State.getBit_regF_setFlag, h]
  simp only [Option.some.injEq, eq_comm]

theorem State.regF_low_nibble_of_lr {s : State} (hv : s.config.variant = .lr35902) : s.regF &&& 0x0F = 0 := by
  rw [State.regF, hv]
  exact maskF_lr_low s.cpu.f

/-- The low nibble of a byte as a number. -/
theorem toNat_and_low_nibble (f : Byte) : (f &&& 0x0F).toNat = f.toNat % 16 := by
  rw [BitVec.toNat_and]
  exact Nat.and_two_pow_sub_one_eq_mod f.toNat 4

/-- AF shows the low nibble of F as F itself does: 256 times A adds nothing modulo 16. -/
theorem State.pair_af_low_nibble (s : State) : (s.pair .af).toNat % 16 = (s.regF &&& 0x0F).toNat := by
  have hword : (s.pair .af).toNat = (s.reg8 .a).toNat * 256 + s.regF.toNat := toNat_word _ _
  rw [toNat_and_low_nibble]
  omega

/-- Settles O19: the two tables by evaluation, the reads and writes of a flag from the bitwise law of `setFlag`, and the
LR35902 clauses from the mask that every read and write of F goes through. -/
theorem flagsAreBitsOfF : Obligations.FlagsAreBitsOfF := by
  unfold Obligations.FlagsAreBitsOfF
  refine ⟨rfl, rfl, fun s fl k hk => ?_, fun s hv => ?_⟩
  · exact ⟨State.flag_eq_getBit hk, State.getBit_regF_setFlag_of_flagBit hk⟩
  · have hlow : s.regF &&& 0x0F = 0 := State.regF_low_nibble_of_lr hv
    have haf : (s.pair .af).toNat % 16 = 0 := by rw [State.pair_af_low_nibble, hlow]; rfl
    have hwrite (f : Byte) : (s.setF f).regF = f &&& 0xF0 := by rw [State.regF_setF, maskF_of_lr hv]
    have hnone : flagBit s.config.variant .s = none ∧ flagBit s.config.variant .pv = none := by
      rw [hv]; exact ⟨rfl, rfl⟩
    exact ⟨maskF_of_lr hv s.cpu.f, hlow, haf, hwrite, hnone⟩

end Sys2Proof.Machine

/-! Bytes and words in RAM (`20_memory.md` R66, R67, R69, R70). -/

namespace Sys2Proof.Machine

/-- The second address of a word access as `20_memory.md` R66 writes it, wrap at 0xFFFF included. -/
theorem eq_add_one_of_toNat {a next : Word} (h : next.toNat = (a.toNat + 1) % 65536) : next = a + 1 :=
  BitVec.eq_of_toNat_eq (by simpa [BitVec.toNat_add] using h)

/-- A word's two bytes lie at two addresses, at the wrap too. -/
theorem add_one_ne_self (a : Word) : a + 1 ≠ a := by
  bv_omega

theorem eq_word_of_toNat {w : Word} {hi lo : Byte} (h : w.toNat = hi.toNat * 256 + lo.toNat) : w = word hi lo :=
  BitVec.eq_of_toNat_eq (h.trans (toNat_word hi lo).symm)

theorem notPlatform_of_ram {c : Config} {a : Word} (h : ownerOf c a = some .ram) : notPlatform c a := by
  simp [notPlatform, h]

/-- What every address reads after a byte is written to RAM. -/
theorem State.peek8_write8_of_ram {s : State} {a : Word} (h : ownerOf s.config a = some .ram) (v : Byte) (x : Word) :
    (s.write8 a v).peek8 x = if x = a then v else s.peek8 x := by
  split
  case isTrue hx => rw [hx]; exact Bus.peek8_write8_same s.bus v (.inl h)
  case isFalse hx => exact Bus.peek8_write8_other s.bus v hx fun id hid => absurd hid (notPlatform_of_ram h id)

theorem State.write16_word (s : State) (a : Word) (hi lo : Byte) :
    s.write16 a (word hi lo) = (s.write8 a lo).write8 (a + 1) hi := by
  simp [State.write16]

/-- What every address reads after a word is written to RAM. -/
theorem State.peek8_write16_of_ram {s : State} {a : Word} (ha : ownerOf s.config a = some .ram)
    (hn : ownerOf s.config (a + 1) = some .ram) (w x : Word) :
    (s.write16 a w).peek8 x = if x = a + 1 then hiByte w else if x = a then loByte w else s.peek8 x := by
  have hn' : ownerOf (s.write8 a (loByte w)).config (a + 1) = some .ram := hn
  rw [State.write16, State.peek8_write8_of_ram hn', State.peek8_write8_of_ram ha]

/-- Where the first read has no side effect, a word read combines the two bytes that stand in memory. -/
theorem State.read16_fst_of_notPlatform {s : State} {a : Word} (h : notPlatform s.config a) :
    (s.read16 a).1 = word (s.peek8 (a + 1)) (s.peek8 a) := by
  rw [State.read16_fst, State.afterRead_of_notPlatform h]

/-- Settles O22: the accesses by the laws of `read16` and `write16`, the RAM clauses from what every address reads after a
word write, whose two addresses differ. -/
theorem wordsAreTwoBytesLowByteFirst : Obligations.WordsAreTwoBytesLowByteFirst := by
  unfold Obligations.WordsAreTwoBytesLowByteFirst
  intro s a w next hnext
  obtain rfl := eq_add_one_of_toNat hnext
  refine ⟨toNat_word _ _, State.read16_snd s a, fun lo hi hw => ?_, fun ha hn => ?_⟩
  · rw [eq_word_of_toNat hw, State.write16_word]
  · have hpeek := State.peek8_write16_of_ram ha hn w
    have hlo : (s.write16 a w).peek8 a = loByte w := by rw [hpeek, if_neg (add_one_ne_self a).symm, if_pos rfl]
    have hhi : (s.write16 a w).peek8 (a + 1) = hiByte w := by rw [hpeek, if_pos rfl]
    refine ⟨?_, ?_, ?_, fun x hxa hxn => ?_⟩
    · have ha' : notPlatform (s.write16 a w).config a := notPlatform_of_ram ha
      rw [State.read16_fst_of_notPlatform ha', hhi, hlo, word_hiByte_loByte]
    · rw [hlo, toNat_loByte]
    · rw [hhi, toNat_hiByte]
    · rw [hpeek, if_neg hxn, if_neg hxa]

end Sys2Proof.Machine

/-! The register writes of the APU window (`60_exceptions.md` R276, R277, R279, R280, R288, R289). -/

namespace Sys2Proof.Machine

/-- The shadow byte that a dispatch sees at an address other than the one just written (R276). -/
theorem Apu.read_setShadow_of_ne (u : Apu) {a x : Word} (v : Byte) (h : x ≠ a) :
    (u.setShadow a v).read x = u.read x := by
  simp [Apu.read, Apu.setShadow, Memory.read_write, toNat_inj_word, h]

theorem Apu.read_write_same (u : Apu) (a : Word) (v : Byte) : (u.write a v).read a = v := by
  rw [Apu.read_write, if_pos rfl]

theorem Apu.write_ff10 (u : Apu) (v : Byte) :
    u.write 0xFF10 v = { u.setShadow 0xFF10 v with sweep := Sweep.ofByte v } := rfl

theorem Apu.write_ff12 (u : Apu) (v : Byte) :
    u.write 0xFF12 v = { u.setShadow 0xFF12 v with pulse1 := u.pulse1.writeEnvelope v } := rfl

theorem Apu.write_ff17 (u : Apu) (v : Byte) :
    u.write 0xFF17 v = { u.setShadow 0xFF17 v with pulse2 := u.pulse2.writeEnvelope v } := rfl

/-- The dispatch reads the other frequency register, which the write to this one leaves as it was (R280). -/
theorem Apu.write_ff13 (u : Apu) (v : Byte) :
    u.write 0xFF13 v =
      { u.setShadow 0xFF13 v with pulse1 := u.pulse1.writeFrequencyLow (u.read 0xFF14) v } := by
  rw [← u.read_setShadow_of_ne v (show (0xFF14 : Word) ≠ 0xFF13 by decide)]
  rfl

theorem Apu.write_ff18 (u : Apu) (v : Byte) :
    u.write 0xFF18 v =
      { u.setShadow 0xFF18 v with pulse2 := u.pulse2.writeFrequencyLow (u.read 0xFF19) v } := by
  rw [← u.read_setShadow_of_ne v (show (0xFF19 : Word) ≠ 0xFF18 by decide)]
  rfl

/-- The addresses of the window without a channel side effect (R289). -/
theorem Apu.write_of_unused (u : Apu) {a : Word} (v : Byte)
    (h : a = 0xFF15 ∨ 0xFF1A ≤ a.toNat ∧ a.toNat ≤ 0xFF3F) : u.write a v = u.setShadow a v := by
  rcases h with rfl | ⟨hlo, -⟩
  · rfl
  · have hne (k : Word) (hk : k.toNat < 0xFF1A) : a ≠ k := fun e => by subst e; omega
    simp [Apu.write, Apu.dispatch, hne]

/-- A bus read of a byte the APU owns: the shadow byte, and no side effect (R288). -/
theorem State.read8_of_apu {s : State} {a : Word} (h : ownerOf s.config a = some .apu) :
    s.read8 a = (s.bus.apu.read a, s) := by
  have hplat : notPlatform s.config a := by simp [notPlatform, h]
  rw [State.read8, State.afterRead_of_notPlatform hplat]
  simp [State.peek8, Bus.peek8, h]

/-- Settles O50: the shadow bytes by the law of a register write, and at an unused address the write is that of the
shadow byte alone. -/
theorem windowReadsShadowBytes : Obligations.WindowReadsShadowBytes := by
  unfold Obligations.WindowReadsShadowBytes
  intro u a v
  refine ⟨u.read_write_same a v, fun x hx => ?_, fun s h => State.read8_of_apu h, fun h => ⟨_, u.write_of_unused v h⟩⟩
  rw [Apu.read_write, if_neg hx]

/-- Settles O54: the frequency is composed from the byte written and the other register's shadow byte, which the write
does not change. -/
theorem frequencyLowRegisterWrites : Obligations.FrequencyLowRegisterWrites := by
  unfold Obligations.FrequencyLowRegisterWrites
  intro u v
  exact ⟨⟨_, u.write_ff13 v, rfl, rfl, rfl, rfl⟩, ⟨_, u.write_ff18 v, rfl, rfl, rfl, rfl⟩⟩

/-- The field of `len` bits from bit `k` up as a number (`00_scope.md` R9). -/
theorem toNat_bitField (v : Byte) (k len : Nat) : (v.extractLsb' k len).toNat = v.toNat / 2 ^ k % 2 ^ len := by
  rw [BitVec.extractLsb'_toNat, Nat.shiftRight_eq_div_pow]

theorem toNat_lowBits (v : Byte) (len : Nat) : (v.extractLsb' 0 len).toNat = v.toNat % 2 ^ len := by
  rw [toNat_bitField, pow_zero, Nat.div_one]

/-- `VVVV APPP` with its fields as numbers (R279). -/
theorem Pulse.writeEnvelope_eq (p : Pulse) (v : Byte) :
    p.writeEnvelope v =
      { p with startingVolume := BitVec.ofNat 4 (v.toNat / 16), envelopeAddMode := v.getLsbD 3,
               envelopePeriod := BitVec.ofNat 3 (v.toNat % 8) } := by
  have hvolume : v.extractLsb' 4 4 = BitVec.ofNat 4 (v.toNat / 16) :=
    BitVec.eq_of_toNat_eq (toNat_bitField v 4 4)
  have hperiod : v.extractLsb' 0 3 = BitVec.ofNat 3 (v.toNat % 8) :=
    BitVec.eq_of_toNat_eq (by rw [toNat_lowBits]; simp)
  rw [Pulse.writeEnvelope, hvolume, hperiod]

/-- Settles O51: each write is that of the shadow byte and of the sweep or of one channel's envelope fields, which are
the bit fields of the byte. -/
theorem sweepAndEnvelopeRegisterWrites : Obligations.SweepAndEnvelopeRegisterWrites := by
  unfold Obligations.SweepAndEnvelopeRegisterWrites
  intro u v
  refine ⟨⟨_, u.write_ff10 v, toNat_bitField v 4 3, rfl, toNat_lowBits v 3, ?_, rfl, rfl, rfl⟩,
    fun p => p.writeEnvelope_eq v, ⟨_, u.write_ff12 v, rfl, rfl, rfl, rfl⟩, ⟨_, u.write_ff17 v, rfl, rfl, rfl, rfl⟩⟩
  rw [← u.write_ff10 v, Apu.read_write_same]

end Sys2Proof.Machine

/-! The length counter: the trigger's reload and the tick (`60_exceptions.md` R282, R284). -/

namespace Sys2Proof.Machine

theorem toNat_eq_zero_iff {n : BitVec 7} : n.toNat = 0 ↔ n = 0 := BitVec.toNat_inj (y := 0)

/-- The trigger's reload of a zero counter (R282), the counter as a number. -/
theorem ofNat_reload_zero (n : BitVec 7) :
    BitVec.ofNat 7 (if n.toNat = 0 then 64 else n.toNat) = if n = 0 then 64 else n := by
  simp only [toNat_eq_zero_iff]
  split
  · rfl
  · rw [BitVec.ofNat_toNat, BitVec.setWidth_eq]

/-- Settles O53: the trigger's own definition, the reloaded counter read as a number. -/
theorem triggerReloads : Obligations.TriggerReloads := by
  unfold Obligations.TriggerReloads
  intro p
  rw [ofNat_reload_zero, Pulse.trigger]

/-- An enabled counter above 0 counts down, and the channel stays enabled unless it was at 1 (R284). -/
theorem Pulse.lengthTick_of_counting {p : Pulse} (he : p.lengthEnable = true) (hc : p.lengthCounter ≠ 0) :
    p.lengthTick = { p with lengthCounter := p.lengthCounter - 1,
                            enabled := p.enabled && decide (p.lengthCounter ≠ 1) } := by
  have hlast : p.lengthCounter - 1 = 0 ↔ p.lengthCounter = 1 := by bv_omega
  rw [Pulse.lengthTick, if_pos ⟨he, hc⟩]
  by_cases h1 : p.lengthCounter = 1
  · simp [h1]
  · simp only [hlast, h1, if_false, decide_not, decide_false, Bool.not_false, Bool.and_true]

/-- A counter that is not enabled or stands at 0 does nothing (R284). -/
theorem Pulse.lengthTick_of_idle {p : Pulse} (h : p.lengthEnable = false ∨ p.lengthCounter = 0) : p.lengthTick = p := by
  rcases h with h | h <;> simp [Pulse.lengthTick, h]

/-- Settles O56: the two cases of the tick, the counter read as a number. -/
theorem lengthTickCountsDown : Obligations.LengthTickCountsDown := by
  unfold Obligations.LengthTickCountsDown
  intro p
  refine ⟨fun he hpos => ?_, fun h => Pulse.lengthTick_of_idle (h.imp_right toNat_eq_zero_iff.mp)⟩
  have hone : p.lengthCounter.toNat ≠ 1 ↔ p.lengthCounter ≠ 1 := (BitVec.toNat_inj (y := 1)).not
  have hdown : BitVec.ofNat 7 (p.lengthCounter.toNat - 1) = p.lengthCounter - 1 := by bv_omega
  have hc : p.lengthCounter ≠ 0 := mt toNat_eq_zero_iff.mpr hpos.ne'
  simp only [Pulse.lengthTick_of_counting he hc, hone, hdown]

end Sys2Proof.Machine

/-! Decoding undoes encoding, and encoding undoes decoding (`30_encoding.md` R100 to R109). -/

namespace Sys2Proof

/-- A Z80 row runs on the Z80 alone (R102). -/
theorem Instr.variant_of_z80 {i : Instr} {v : Variant} (ht : i.table = .z80) (h : i.runsOn v = true) : v = .z80 := by
  rw [Instr.runsOn, ht] at h
  cases v
  · rfl
  · cases h

/-- An LR35902 row runs on the LR35902 alone (R102). -/
theorem Instr.variant_of_lr {i : Instr} {v : Variant} (ht : i.table = .lr35902) (h : i.runsOn v = true) :
    v = .lr35902 := by
  rw [Instr.runsOn, ht] at h
  cases v
  · cases h
  · rfl

/-- The table finds every opcode, and the immediate that follows it is the instruction's operand: a word by
`decode_opNN`, a byte or none by evaluation. -/
theorem decode_encode_append (v : Variant) (i : Instr) (rest : List Byte) (h : i.runsOn v = true) :
    decode v (encode i ++ rest) = .ok (i, rest) := by
  cases i with
  | ldBcNn nn | ldDeNn nn | ldHlNn nn | ldSpNn nn | jp nn | jpNz nn | jpZ nn | jpNc nn | jpC nn
  | call nn | callNz nn | callZ nn | callNc nn | callC nn =>
    cases v <;> exact decode_opNN nn rest rfl
  | jpPo nn | jpPe nn | jpP nn | jpM nn | callPo nn | callPe nn | callP nn | callM nn
  | ldNnIndHl nn | ldHlNnInd nn | ldNnIndAZ80 nn | ldANnIndZ80 nn =>
    obtain rfl := Instr.variant_of_z80 rfl h
    exact decode_opNN nn rest rfl
  | ldNnIndALr nn | ldANnIndLr nn =>
    obtain rfl := Instr.variant_of_lr rfl h
    exact decode_opNN nn rest rfl
  | retPo | retPe | retP | retM | ldi =>
    obtain rfl := Instr.variant_of_z80 rfl h
    rfl
  | ldHlIncA | ldAHlInc | ldHlDecA | ldAHlDec | reti | ldCIndA | ldACInd | ldhNIndA n | ldhANInd n | addSpN e
  | ldHlSpN e | swapB | swapC | swapD | swapE | swapH | swapL | swapHlInd | swapA =>
    obtain rfl := Instr.variant_of_lr rfl h
    rfl
  | _ => cases v <;> rfl

/-- What a second opcode page holds for the byte `b1` (R103). -/
theorem encode_of_pageRow {rows : List (Nat × Instr)} {v : Variant} {b b1 : Byte} {i : Instr}
    (hrows : ∀ p ∈ rows, encode p.2 = [b, BitVec.ofNat 8 p.1] ∧ p.2.runsOn v = true)
    (h : rows.lookup b1.toNat = some i) : encode i = [b, b1] ∧ i.runsOn v = true := by
  simpa using hrows _ (mem_of_lookup h)

/-- What an entry of the tables makes of the bytes after the first is an instruction of the variant, and its encoding is
the first byte with those it took. -/
theorem Entry.Admits.encode_of_complete {v : Variant} {b : Byte} {e : Entry} (he : e.Admits v b) {bs rest : List Byte}
    {i : Instr} (h : e.complete v bs = .ok (i, rest)) : b :: bs = encode i ++ rest ∧ i.runsOn v = true := by
  cases e with
  | op j =>
    obtain ⟨henc, hrun⟩ := he
    cases h
    exact ⟨by rw [henc]; rfl, hrun⟩
  | opN mk | opE mk =>
    cases bs with
    | nil => cases h
    | cons n bs =>
      obtain ⟨henc, hrun⟩ := he n
      cases h
      exact ⟨by rw [henc]; rfl, hrun⟩
  | opNN mk =>
    match bs, h with
    | lo :: hi :: bs, h =>
      obtain ⟨henc, hrun⟩ := he (word hi lo)
      cases h
      exact ⟨by rw [henc, loByte_word, hiByte_word]; rfl, hrun⟩
  | cbPage =>
    obtain rfl : b = 0xCB := he
    cases bs with
    | nil => cases h
    | cons b1 bs =>
      simp only [Entry.complete] at h
      split at h
      · next j hj =>
        obtain ⟨henc, hrun⟩ := encode_of_pageRow (cbRows_admits v) hj
        cases h
        exact ⟨by rw [henc]; rfl, hrun⟩
      · cases h
  | edPage =>
    obtain ⟨rfl, -⟩ : b = 0xED ∧ v = .z80 := he
    cases bs with
    | nil => cases h
    | cons b1 bs =>
      simp only [Entry.complete] at h
      split at h
      · next j hj =>
        obtain ⟨henc, hrun⟩ := encode_of_pageRow (edRows_admits v) hj
        cases h
        exact ⟨by rw [henc]; rfl, hrun⟩
      · cases h

/-- Bytes that decode begin with a byte that the tables list, whose entry takes the rest (R102). -/
theorem decode_ok {v : Variant} {bs rest : List Byte} {i : Instr} (h : decode v bs = .ok (i, rest)) :
    ∃ b e bs', bs = b :: bs' ∧ lookupFirst v b = some e ∧ e.complete v bs' = .ok (i, rest) := by
  cases bs with
  | nil => cases h
  | cons b bs =>
    simp only [decode] at h
    split at h
    · next e he => exact ⟨b, e, bs, rfl, he, h⟩
    · cases h

/-- Settles O1: `decode_encode_append`. -/
theorem decodeOfEncode : Obligations.DecodeOfEncode := by
  unfold Obligations.DecodeOfEncode
  exact decode_encode_append

/-- Settles O2: the entry found for the first byte admits only encodings of the variant's instructions. -/
theorem encodeOfDecode : Obligations.EncodeOfDecode := by
  unfold Obligations.EncodeOfDecode
  intro v bs i rest h
  obtain ⟨b, e, bs', rfl, he, hc⟩ := decode_ok h
  exact (lookupFirst_admits he).encode_of_complete hc

end Sys2Proof

/-! What every operation of a step keeps, every step keeps (`70_reset_and_hazards.md` R325). -/

namespace Sys2Proof.Machine

/-- Every row of the table has a meaning that answers a next state (`60_exceptions.md` R259). -/
theorem exec_next (i : Instr) (s : State) : ∃ t, exec i s = .next t := by
  cases i <;> exact ⟨_, rfl⟩

/-- Settles O10: `exec_next`. -/
theorem everyInstructionCompletes : Obligations.EveryInstructionCompletes := by
  unfold Obligations.EveryInstructionCompletes
  exact exec_next

theorem ReadClosed.readBytes {P : State → Prop} (hP : ReadClosed P) (n : Nat) (a : Word) {s : State} (h : P s) :
    P (readBytes n a s).2 := by
  induction n generalizing a s with
  | zero => exact h
  | succ n ih => exact ih (a + 1) (hP.afterRead s a h)

theorem ReadClosed.fetch {P : State → Prop} (hP : ReadClosed P) {s : State} (h : P s) : P (fetch s).2 :=
  hP.readBytes _ _ (hP.afterRead s s.cpu.pc h)

theorem Closed.cpuStep {P : State → Prop} (hP : Closed P) {s t : State} (h : P s) (hstep : cpuStep s = .next t) :
    P t := by
  obtain ⟨i, rest, u, -, hexec, rfl⟩ := cpuStep_next hstep
  exact hP.finishEi (exec_keeps hP hexec (hP.setPc _ _ (hP.fetch h))) _

/-- Kept by every operation that a step is built of: those of an instruction, the tick, and the two fields by which the
model keeps a run's turns. -/
structure StepClosed (P : State → Prop) : Prop extends Closed P where
  clock256hz : ∀ s, P s → P s.clock256hz
  setSchedule : ∀ s l, P s → P { s with schedule := l }
  setCallReturn : ∀ s r, P s → P { s with callReturn := r }

namespace StepClosed

variable {P : State → Prop} (hP : StepClosed P) {s t : State} (h : P s)
include hP h

theorem startCall (addr : Word) : P (s.startCall addr) :=
  hP.setCallReturn _ _ (hP.setPc _ _ (hP.push16 h _))

theorem perform (act : HostAction) : P (s.perform act) := by
  cases act with
  | setPc w => exact hP.setPc s w h
  | setSp w => exact hP.setSp h w
  | setA v => exact hP.setReg8 s .a v h
  | read8 a => exact hP.afterRead s a h
  | read16 a => exact hP.read16 h a
  | write8 a v => exact hP.write8 s a v h
  | write16 a w => exact hP.write16 h a w
  | call a => exact hP.startCall h a
  | clock256hz => exact hP.clock256hz s h

theorem step (hstep : step s = .next t) : P t := by
  obtain ⟨-, ⟨pc0, -, -, rfl⟩ | ⟨rest, hcpu⟩ | ⟨act, rest, -, -, rfl⟩⟩ := step_next_cases hstep
  · exact hP.setCallReturn _ _ h
  · exact hP.cpuStep (hP.setSchedule _ rest h) hcpu
  · exact hP.perform (hP.setSchedule _ rest h) act

theorem reaches (hr : Reaches s t) : P t := by
  induction hr with
  | refl s => exact h
  | step hstep _ ih => exact ih (hP.step h hstep)

end StepClosed

/-! The tick writes the APU and no other field (`60_exceptions.md` R283). -/

@[simp] theorem State.clock256hz_config (s : State) : s.clock256hz.config = s.config := by
  unfold State.clock256hz; split <;> rfl
@[simp] theorem State.clock256hz_cpu (s : State) : s.clock256hz.cpu = s.cpu := by
  unfold State.clock256hz; split <;> rfl
@[simp] theorem State.clock256hz_status (s : State) : s.clock256hz.status = s.status := by
  unfold State.clock256hz; split <;> rfl
@[simp] theorem State.clock256hz_schedule (s : State) : s.clock256hz.schedule = s.schedule := by
  unfold State.clock256hz; split <;> rfl

theorem BusInv.state_clock256hz {s : State} (h : BusInv s.config s.bus) : BusInv s.config s.clock256hz.bus := by
  unfold State.clock256hz
  split
  · exact h.clock
  · exact h

/-- The invariant survives every operation a step is built of: the bus by `BusInv`, F because every write of it is
masked, IFF1 and IFF2 because they are written together. -/
theorem inv_stepClosed : StepClosed Inv where
  setReg8 s r v h := ⟨by simpa using h.config, by simpa using h.bus, by simpa using h.f_masked, by simpa using h.iff_eq,
    by simpa using h.running⟩
  setPair16 s p w h := ⟨by simpa using h.config, by simpa using h.bus, by simpa using h.f_masked,
    by simpa using h.iff_eq, by simpa using h.running⟩
  setFlag s fl b h := ⟨by simpa using h.config, by simpa using h.bus,
    by simpa using State.setFlag_f_masked s fl b h.f_masked, by simpa using h.iff_eq, by simpa using h.running⟩
  setPc s w h := ⟨h.config, h.bus, h.f_masked, h.iff_eq, h.running⟩
  setIff s b h := ⟨h.config, h.bus, h.f_masked, rfl, h.running⟩
  setEiPending s b h := ⟨h.config, h.bus, h.f_masked, h.iff_eq, h.running⟩
  afterRead s a h := ⟨h.config, h.bus.afterRead a, h.f_masked, h.iff_eq, h.running⟩
  write8 s a v h := ⟨h.config, h.bus.write8 h.config a v, h.f_masked, h.iff_eq, h.running⟩
  clock256hz s h := ⟨by simpa using h.config, by simpa using h.bus.state_clock256hz, by simpa using h.f_masked,
    by simpa using h.iff_eq, by simpa using h.running⟩
  setSchedule s l h := ⟨h.config, h.bus, h.f_masked, h.iff_eq, h.running⟩
  setCallReturn s r h := ⟨h.config, h.bus, h.f_masked, h.iff_eq, h.running⟩

/-- Settles O11: the invariant is kept by every operation a step is built of. -/
theorem stepKeepsInvariant : Obligations.StepKeepsInvariant := by
  unfold Obligations.StepKeepsInvariant
  intro s t h hstep
  exact inv_stepClosed.step h hstep

/-- The state has these parameters, I, R and shadow set. -/
def HasInert (c : Config) (i r : Byte) (sh : ShadowRegs) (s : State) : Prop :=
  s.config = c ∧ s.cpu.i = i ∧ s.cpu.r = r ∧ s.cpu.shadow = sh

/-- No operation a step is built of writes the parameters, I, R or the shadow set (`10_state.md` R30, D17). -/
theorem hasInert_stepClosed (c : Config) (i r : Byte) (sh : ShadowRegs) : StepClosed (HasInert c i r sh) where
  setReg8 s q v h := by simpa [HasInert] using h
  setPair16 s p w h := by simpa [HasInert] using h
  setFlag s fl b h := by simpa [HasInert] using h
  setPc s w h := h
  setIff s b h := h
  setEiPending s b h := h
  afterRead s a h := h
  write8 s a v h := h
  clock256hz s h := by simpa [HasInert] using h
  setSchedule s l h := h
  setCallReturn s r h := h

/-- Settles O14: no operation of a step writes these fields, so no run does. -/
theorem parametersAndInertRegistersNeverChange : Obligations.ParametersAndInertRegistersNeverChange := by
  unfold Obligations.ParametersAndInertRegistersNeverChange
  intro s t hr
  exact (hasInert_stepClosed _ _ _ _).reaches ⟨rfl, rfl, rfl, rfl⟩ hr

end Sys2Proof.Machine

/-! The CPU's turn and its step (`30_encoding.md` R101, `70_reset_and_hazards.md` R325). -/

namespace Sys2Proof

/-- A decoded instruction takes as many bytes as its first byte calls for (`30_encoding.md` R100). -/
theorem Entry.complete_length {v : Variant} {e : Entry} {bs rest : List Byte} {i : Instr}
    (h : e.complete v bs = .ok (i, rest)) : bs.length + 1 = e.length + rest.length := by
  cases e with
  | op j => cases h; simp only [Entry.length]; omega
  | opN mk | opE mk =>
    match bs, h with
    | _ :: bs, h => cases h; simp only [Entry.length, List.length_cons]; omega
  | opNN mk =>
    match bs, h with
    | _ :: _ :: bs, h => cases h; simp only [Entry.length, List.length_cons]; omega
  | cbPage | edPage =>
    match bs, h with
    | _ :: bs, h =>
      simp only [Entry.complete] at h
      split at h
      · cases h; simp only [Entry.length, List.length_cons]; omega
      · cases h

/-- The first byte of an instruction of the variant calls for exactly its encoding (`30_encoding.md` R101). -/
theorem encode_eq_cons {v : Variant} {i : Instr} (h : i.runsOn v = true) :
    ∃ b bs, encode i = b :: bs ∧ fetchLength v b = bs.length + 1 := by
  obtain ⟨b, e, bs, henc, he, hc⟩ := decode_ok (decode_encode_append v i [] h)
  rw [List.append_nil] at henc
  refine ⟨b, bs, henc, ?_⟩
  rw [fetchLength, he]
  exact (Entry.complete_length hc).symm

/-- Bytes that are no instruction were rejected after one byte, or after two of a page: a fetch gave no more (R101). -/
theorem fetchLength_le_two_of_reject {v : Variant} {b : Byte} {bs : List Byte} {r : Reject}
    (hlen : bs.length = fetchLength v b - 1) (h : decode v (b :: bs) = .error r) : fetchLength v b ≤ 2 := by
  unfold fetchLength at hlen ⊢
  cases he : lookupFirst v b with
  | none => exact Nat.le_succ 1
  | some e =>
    rw [he] at hlen
    cases e with
    | opNN mk =>
      match bs, hlen with
      | [lo, hi], _ => simp [decode, he, Entry.complete] at h
    | op j => exact Nat.le_succ 1
    | _ => exact Nat.le_refl 2

theorem decode_unowned (v : Variant) : decode v [0xFF] = .error (.unrecognized 0xFF) := by
  cases v <;> rfl

theorem fetchLength_unowned (v : Variant) : fetchLength v 0xFF = 1 := by
  cases v <;> rfl

end Sys2Proof

namespace Sys2Proof.Machine

open Sys2Proof.Stated

/-- Reading bytes that stand in storage answers them and has no side effect. -/
theorem readBytes_of_bytesAt {s : State} {a : Word} {bs : List Byte} (h : BytesAt s a bs) :
    readBytes bs.length a s = (bs, s) := by
  induction bs generalizing a with
  | nil => rfl
  | cons b bs ih =>
    obtain ⟨hb, hplat, hbs⟩ := h
    simp only [List.length_cons, readBytes, State.read8, State.afterRead_of_notPlatform hplat, hb, ih hbs]

/-- A fetch where an instruction of the variant stands at PC (`30_encoding.md` R101). -/
theorem fetch_of_bytesAt {s : State} {i : Instr} (hi : i.runsOn s.config.variant = true)
    (h : BytesAt s s.cpu.pc (encode i)) : fetch s = (encode i, s) := by
  obtain ⟨b, bs, henc, hlen⟩ := encode_eq_cons hi
  rw [henc] at h ⊢
  obtain ⟨hb, hplat, hbs⟩ := h
  simp only [fetch, State.read8, State.afterRead_of_notPlatform hplat, hb, hlen, Nat.add_sub_cancel,
    readBytes_of_bytesAt hbs]

/-- A fetch from unowned memory gives the byte 0xFF alone (`30_encoding.md` R108, D14). -/
theorem fetch_of_unowned {s : State} (h : ownerOf s.config s.cpu.pc = none) : (fetch s).1 = [0xFF] := by
  have hpeek : s.peek8 s.cpu.pc = 0xFF := by simp [State.peek8, Bus.peek8, h]
  obtain ⟨bs, hbytes, hlen⟩ := fetch_bytes s
  rw [hpeek, fetchLength_unowned] at hlen
  rw [hbytes, hpeek, List.eq_nil_of_length_eq_zero hlen]

/-- Bytes that do not decode are at most two (`60_exceptions.md` R251). -/
theorem fetch_length_le_two_of_reject {s : State} {r : Reject} (h : decode s.config.variant (fetch s).1 = .error r) :
    (fetch s).1.length ≤ 2 := by
  obtain ⟨bs, hbytes, hlen⟩ := fetch_bytes s
  rw [hbytes] at h ⊢
  have := fetchLength_le_two_of_reject hlen h
  rw [List.length_cons]
  omega

/-- Whatever gives the CPU the turn, the step is a CPU step from the state it is taken from. -/
theorem step_of_cpuTurn {s u : State} (h : CpuTurn s u) : step s = cpuStep u := by
  cases h with
  | idle hrun hcall hsch => exact step_of_idle hrun hcall hsch
  | scheduled rest hrun hcall hsch => exact step_of_scheduled hrun hcall hsch
  | inCall pc0 hrun hcall hpc => exact step_of_inCall hrun hcall hpc

/-- Taking the turn off the schedule changes nothing else. -/
theorem eq_of_cpuTurn {s u : State} (h : CpuTurn s u) : u = { s with schedule := u.schedule } := by
  cases h <;> rfl

theorem fetch_of_cpuTurn {s u : State} (h : CpuTurn s u) : (fetch u).1 = (fetch s).1 := by
  rw [eq_of_cpuTurn h]
  exact (fetch_congr (s := s) (t := { s with schedule := u.schedule }) rfl rfl rfl).1

/-- A CPU step whose bytes decode and whose instruction answers a next state. -/
theorem cpuStep_of_exec {s t : State} {i : Instr} {rest : List Byte}
    (hd : decode s.config.variant (fetch s).1 = .ok (i, rest)) (he : exec i (execState s) = .next t) :
    cpuStep s = .next (t.finishEi s.cpu.eiPending) := by
  rw [cpuStep_of_decode hd, he, finishStep]

/-- Settles O4: the turn is a CPU step, and that step by its own law. -/
theorem stepExecutesDecodedInstruction : Obligations.StepExecutesDecodedInstruction := by
  unfold Obligations.StepExecutesDecodedInstruction
  intro s u i rest t hturn hd he
  rw [step_of_cpuTurn hturn]
  exact cpuStep_of_exec hd he

/-- Settles O5: the fetch gives the encoding, which decodes to the instruction. -/
theorem stepRunsInstructionAtPc : Obligations.StepRunsInstructionAtPc := by
  unfold Obligations.StepRunsInstructionAtPc
  intro s u i t hturn hi hbytes he
  have hfetch : fetch u = (encode i, u) := fetch_of_bytesAt hi hbytes
  have hd : decode u.config.variant (fetch u).1 = .ok (i, []) := by
    rw [hfetch, ← decode_encode_append _ i [] hi, List.append_nil]
  rw [step_of_cpuTurn hturn]
  exact cpuStep_of_exec hd (by rw [execState, hfetch]; exact he)

/-- Settles O6: the step ends by finishing the `EI` that was pending when it began. -/
theorem eiTakesEffectAfterNextInstruction : Obligations.EiTakesEffectAfterNextInstruction := by
  unfold Obligations.EiTakesEffectAfterNextInstruction
  intro s u t hturn hei hstep
  rw [step_of_cpuTurn hturn] at hstep
  obtain ⟨i, rest, v, -, -, rfl⟩ := cpuStep_next hstep
  have hei' : u.cpu.eiPending = true := by rw [eq_of_cpuTurn hturn]; exact hei
  rw [hei']
  exact ⟨rfl, rfl, rfl⟩

end Sys2Proof.Machine

/-! The frame of the operations that instructions are built of. -/

namespace Sys2Proof.Stated

open Sys2Proof.Machine

theorem not_sharesDevice {c : Config} {x a : Word} (h : ¬ SharesDevice c x a) (id : Nat)
    (hx : ownerOf c x = some (.platform id)) : ownerOf c a ≠ some (.platform id) :=
  fun ha => h ⟨id, hx, ha⟩

namespace Kept

variable {regs regs' : List Reg8} {flags flags' : List Flag} {accessed accessed' stored stored' : List Word}
  {s t u : State}

theorem trans (h : Kept regs flags accessed stored s t) (h' : Kept regs' flags' accessed' stored' t u) :
    Kept (regs ++ regs') (flags ++ flags') (accessed ++ accessed') (stored ++ stored') s u where
  regs r hr := by
    rw [List.mem_append, not_or] at hr
    rw [h'.regs r hr.2, h.regs r hr.1]
  flags k hk := by
    rw [List.forall_mem_append] at hk
    rw [h'.flags k (by rw [h.config]; exact hk.2), h.flags k hk.1]
  bytes a hst hacc := by
    rw [List.mem_append, not_or] at hst
    rw [List.forall_mem_append] at hacc
    rw [h'.bytes a hst.2 (by rw [h.config]; exact hacc.2), h.bytes a hst.1 hacc.1]
  apu hst := by
    rw [List.forall_mem_append] at hst
    rw [h'.apu (by rw [h.config]; exact hst.2), h.apu hst.1]
  i := h'.i.trans h.i
  r := h'.r.trans h.r
  shadow := h'.shadow.trans h.shadow
  config := h'.config.trans h.config
  status := h'.status.trans h.status
  schedule := h'.schedule.trans h.schedule
  callReturn := h'.callReturn.trans h.callReturn

theorem mono (h : Kept regs flags accessed stored s t) (hr : regs ⊆ regs') (hf : flags ⊆ flags')
    (ha : accessed ⊆ accessed') (hs : stored ⊆ stored') : Kept regs' flags' accessed' stored' s t :=
  ⟨fun r h' => h.regs r (mt (@hr r) h'), fun k h' => h.flags k fun fl hfl => h' fl (hf hfl),
    fun a hst hacc => h.bytes a (mt (@hs a) hst) fun x hx => hacc x (ha hx), fun h' => h.apu fun x hx => h' x (hs hx),
    h.i, h.r, h.shadow, h.config, h.status, h.schedule, h.callReturn⟩

theorem setReg8 (s : State) (r : Reg8) (v : Byte) : Kept [r] [] [] [] s (s.setReg8 r v) := by
  constructor
  case regs => exact fun q hq => State.reg8_setReg8_other s v (by simpa using hq)
  all_goals intros; simp

theorem setPair16 (s : State) (p : Reg16) (w : Word) : Kept p.parts [] [] [] s (s.setPair16 p w) := by
  constructor
  case regs => exact fun q hq => State.reg8_setPair16_other s w hq
  all_goals intros; simp

theorem setSp (s : State) (w : Word) : Kept [] [] [] [] s (s.setSp w) := setPair16 s .sp w

theorem setPc (s : State) (w : Word) : Kept [] [] [] [] s (s.setPc w) := by
  constructor <;> intros <;> simp

theorem setIff (s : State) (b : Bool) : Kept [] [] [] [] s (s.setIff b) := by
  constructor <;> intros <;> simp

theorem setEiPending (s : State) (b : Bool) : Kept [] [] [] [] s (s.setEiPending b) := by
  constructor <;> intros <;> simp

theorem setFlag (s : State) (fl : Flag) (b : Bool) : Kept [] [fl] [] [] s (s.setFlag fl b) := by
  constructor
  case flags => exact fun k hk => by rw [State.getBit_regF_setFlag, if_neg (hk fl (List.mem_singleton_self fl))]
  all_goals intros; simp

theorem afterRead (s : State) (a : Word) : Kept [] [] [a] [] s (s.afterRead a) := by
  constructor
  case bytes =>
    exact fun x _ hx => Bus.peek8_afterRead s.bus a x (not_sharesDevice (hx a (List.mem_singleton_self a)))
  all_goals intros; simp

theorem write8 (s : State) (a : Word) (v : Byte) : Kept [] [] [a] [a] s (s.write8 a v) := by
  constructor
  case bytes =>
    intro x hx hacc
    exact Bus.peek8_write8_other s.bus v (by simpa using hx) (not_sharesDevice (hacc a (List.mem_singleton_self a)))
  case apu => exact fun h => Bus.apu_write8 s.bus v (h a (List.mem_singleton_self a))
  all_goals intros; simp

theorem read16 (s : State) (a : Word) : Kept [] [] [a, a + 1] [] s (s.read16 a).2 :=
  (afterRead s a).trans (afterRead _ (a + 1))

theorem write16 (s : State) (a w : Word) : Kept [] [] [a, a + 1] [a, a + 1] s (s.write16 a w) :=
  (write8 s a _).trans (write8 _ (a + 1) _)

end Kept

/-! PC, SP and the interrupt state. -/

theorem SameInterrupts.eiPending {s t : State} (h : SameInterrupts s t) : t.cpu.eiPending = s.cpu.eiPending := h.2.2

theorem Plain.sp {s t : State} (h : Plain s t) : t.cpu.sp = s.cpu.sp := h.2.1

theorem Plain.sameInterrupts {s t : State} (h : Plain s t) : SameInterrupts s t := h.2.2

theorem SameInterrupts.trans {s t u : State} (h : SameInterrupts s t) (h' : SameInterrupts t u) :
    SameInterrupts s u := by
  obtain ⟨hiff1, hiff2, hei⟩ := h
  obtain ⟨hiff1', hiff2', hei'⟩ := h'
  exact ⟨hiff1'.trans hiff1, hiff2'.trans hiff2, hei'.trans hei⟩

theorem Plain.trans {s t u : State} (h : Plain s t) (h' : Plain t u) : Plain s u :=
  ⟨h'.1.trans h.1, h'.sp.trans h.sp, h.sameInterrupts.trans h'.sameInterrupts⟩

theorem Plain.butSp {s t : State} (h : Plain s t) : PlainButSp s t := ⟨h.1, h.sameInterrupts⟩

theorem PlainButSp.trans {s t u : State} (h : PlainButSp s t) (h' : PlainButSp t u) : PlainButSp s u :=
  ⟨h'.1.trans h.1, h.2.trans h'.2⟩

theorem plain_of_cpu {s t : State} (h : t.cpu = s.cpu) : Plain s t := by
  simp [Plain, SameInterrupts, h]

theorem plain_setReg8 (s : State) (r : Reg8) (v : Byte) : Plain s (s.setReg8 r v) := by
  simp [Plain, SameInterrupts]

theorem plainButSp_setPair16 (s : State) (p : Reg16) (w : Word) : PlainButSp s (s.setPair16 p w) := by
  simp [PlainButSp, SameInterrupts]

theorem setPair16_sp_of_ne (s : State) {p : Reg16} (w : Word) (hp : p ≠ .sp) :
    (s.setPair16 p w).cpu.sp = s.cpu.sp := by
  cases p with
  | sp => exact absurd rfl hp
  | bc | de | hl => rfl

theorem plain_setPair16 (s : State) {p : Reg16} (w : Word) (hp : p ≠ .sp) : Plain s (s.setPair16 p w) :=
  ⟨(plainButSp_setPair16 s p w).1, setPair16_sp_of_ne s w hp, (plainButSp_setPair16 s p w).2⟩

end Sys2Proof.Stated

namespace Sys2Proof.Machine

open Sys2Proof.Stated

/-- What only writes F keeps everything but the flags it writes. -/
theorem FlagsOnly.kept {s t : State} (h : FlagsOnly s t) {flags : List Flag}
    (hk : ∀ k, (∀ fl ∈ flags, flagBit s.config.variant fl ≠ some k) → getBit t.regF k = getBit s.regF k) :
    Kept [] flags [] [] s t :=
  ⟨fun r _ => h.reg8 r, hk, fun a _ _ => h.peek8 a, fun _ => by rw [h.bus], by rw [h.cpu], by rw [h.cpu], by rw [h.cpu],
    h.config, h.status, h.schedule, h.callReturn⟩

theorem FlagsOnly.plain {s t : State} (h : FlagsOnly s t) : Plain s t := by
  rw [Plain, SameInterrupts, h.cpu]
  exact ⟨rfl, rfl, rfl, rfl, rfl⟩

end Sys2Proof.Machine

namespace Sys2Proof.Stated

open Sys2Proof.Machine

/-- The frame of an instruction that leaves PC, SP and the interrupt state. -/
def Framed (regs : List Reg8) (flags : List Flag) (accessed stored : List Word) (s t : State) : Prop :=
  Kept regs flags accessed stored s t ∧ Plain s t

namespace Framed

variable {regs regs' : List Reg8} {flags flags' : List Flag} {accessed accessed' stored stored' : List Word}
  {s t u : State}

theorem kept (h : Framed regs flags accessed stored s t) : Kept regs flags accessed stored s t := h.1

theorem plain (h : Framed regs flags accessed stored s t) : Plain s t := h.2

theorem sameInterrupts (h : Framed regs flags accessed stored s t) : SameInterrupts s t := h.plain.sameInterrupts

theorem trans (h : Framed regs flags accessed stored s t) (h' : Framed regs' flags' accessed' stored' t u) :
    Framed (regs ++ regs') (flags ++ flags') (accessed ++ accessed') (stored ++ stored') s u :=
  ⟨h.kept.trans h'.kept, h.plain.trans h'.plain⟩

theorem mono (h : Framed regs flags accessed stored s t) (hr : regs ⊆ regs') (hf : flags ⊆ flags')
    (ha : accessed ⊆ accessed') (hs : stored ⊆ stored') : Framed regs' flags' accessed' stored' s t :=
  ⟨h.kept.mono hr hf ha hs, h.plain⟩

theorem setReg8 (s : State) (r : Reg8) (v : Byte) : Framed [r] [] [] [] s (s.setReg8 r v) :=
  ⟨Kept.setReg8 s r v, plain_setReg8 s r v⟩

theorem setPair16 (s : State) {p : Reg16} (w : Word) (hp : p ≠ .sp) : Framed p.parts [] [] [] s (s.setPair16 p w) :=
  ⟨Kept.setPair16 s p w, plain_setPair16 s w hp⟩

theorem setHl (s : State) (w : Word) : Framed [.h, .l] [] [] [] s (s.setPair16 .hl w) :=
  setPair16 (p := .hl) s w (by decide)

theorem setFlag (s : State) (fl : Flag) (b : Bool) : Framed [] [fl] [] [] s (s.setFlag fl b) :=
  ⟨Kept.setFlag s fl b, by simp [Plain, SameInterrupts]⟩

theorem afterRead (s : State) (a : Word) : Framed [] [] [a] [] s (s.afterRead a) :=
  ⟨Kept.afterRead s a, plain_of_cpu rfl⟩

theorem write8 (s : State) (a : Word) (v : Byte) : Framed [] [] [a] [a] s (s.write8 a v) :=
  ⟨Kept.write8 s a v, plain_of_cpu rfl⟩

theorem read16 (s : State) (a : Word) : Framed [] [] [a, a + 1] [] s (s.read16 a).2 :=
  ⟨Kept.read16 s a, plain_of_cpu rfl⟩

theorem write16 (s : State) (a w : Word) : Framed [] [] [a, a + 1] [a, a + 1] s (s.write16 a w) :=
  ⟨Kept.write16 s a w, plain_of_cpu rfl⟩

theorem inc8Flags (v : Byte) (s : State) : Framed [] [.z, .n, .h, .s, .pv] [] [] s (inc8Flags v s) :=
  ⟨(inc8Flags_only v s).kept (inc8Flags_keeps v s), (inc8Flags_only v s).plain⟩

theorem dec8Flags (v : Byte) (s : State) : Framed [] [.z, .n, .h, .s, .pv] [] [] s (dec8Flags v s) :=
  ⟨(dec8Flags_only v s).kept (dec8Flags_keeps v s), (dec8Flags_only v s).plain⟩

theorem add8Flags (a b : Byte) (s : State) : Framed [] [.z, .n, .h, .c, .s, .pv] [] [] s (add8Flags a b s) :=
  ⟨(add8Flags_only a b s).kept (add8Flags_keeps a b s), (add8Flags_only a b s).plain⟩

theorem addHlFlags (a b : Word) (s : State) : Framed [] [.n, .h, .c] [] [] s (addHlFlags a b s) :=
  ⟨(addHlFlags_only a b s).kept (addHlFlags_keeps a b s), (addHlFlags_only a b s).plain⟩

theorem spAddFlags (sp : Word) (e : Byte) (s : State) : Framed [] [.z, .n, .h, .c] [] [] s (spAddFlags sp e s) :=
  ⟨(spAddFlags_only sp e s).kept (spAddFlags_keeps sp e s), (spAddFlags_only sp e s).plain⟩

theorem swapFlags (r : Byte) (s : State) : Framed [] [.z, .n, .h, .c] [] [] s (swapFlags r s) :=
  ⟨(swapFlags_only r s).kept (swapFlags_keeps r s), (swapFlags_only r s).plain⟩

end Framed

end Sys2Proof.Stated

/-! The 8-bit and 16-bit loads (`40_load8.md` R130 to R153, `41_load16_block.md` R170 to R173). -/

namespace Sys2Proof.Stated

open Sys2Proof.Machine

/-! What the rows of each shape execute. -/

theorem exec_copyRows : ∀ p ∈ copyRows, ∀ s : State, exec p.1 s = .next (s.setReg8 p.2.1 (s.reg8 p.2.2)) := by
  intro p hp
  fin_cases hp <;> exact fun _ => rfl

theorem exec_immRows : ∀ p ∈ immRows, ∀ (n : Byte) (s : State), exec (p.1 n) s = .next (s.setReg8 p.2 n) := by
  intro p hp
  fin_cases hp <;> exact fun _ _ => rfl

theorem exec_loadHlRows : ∀ p ∈ loadHlRows, ∀ s : State, exec p.1 s = .next (loadReg p.2 (s.pair .hl) s) := by
  intro p hp
  fin_cases hp <;> exact fun _ => rfl

theorem exec_storeHlRows : ∀ p ∈ storeHlRows, ∀ s : State, exec p.1 s = .next (storeReg (s.pair .hl) p.2 s) := by
  intro p hp
  fin_cases hp <;> exact fun _ => rfl

theorem exec_pairImmRows : ∀ p ∈ pairImmRows, ∀ (nn : Word) (s : State),
    exec (p.1 nn) s = .next (s.setPair16 p.2 nn) := by
  intro p hp
  fin_cases hp <;> exact fun _ _ => rfl

/-! The frames of the loads. -/

theorem framed_loadReg (r : Reg8) (a : Word) (s : State) : Framed [r] [] [a] [] s (loadReg r a s) :=
  (Framed.afterRead s a).trans (Framed.setReg8 _ r _)

theorem framed_adjustHl (k : Word) (s : State) : Framed [.h, .l] [] [] [] s (adjustHl k s) := Framed.setHl s _

theorem reg8_loadReg (r : Reg8) (a : Word) (s : State) : (loadReg r a s).reg8 r = s.peek8 a :=
  State.reg8_setReg8_same _ r _

theorem bus_loadReg (r : Reg8) (a : Word) (s : State) : (loadReg r a s).bus = (s.afterRead a).bus :=
  State.setReg8_bus _ r _

/-- A state whose bus is that after one byte write has that byte stored (`20_memory.md` R63, R69, R79). -/
theorem storedByte_of_bus {a : Word} {v : Byte} {s t : State} (hc : t.config = s.config)
    (hb : t.bus = (s.write8 a v).bus) : StoredByte a v s t := by
  have hpeek (x : Word) : t.peek8 x = (s.write8 a v).peek8 x := State.peek8_congr (s := s.write8 a v) hc hb x
  refine ⟨hb, fun h => ?_, fun h => ?_⟩
  · rw [hpeek]
    exact Bus.peek8_write8_same s.bus v h
  · rw [hpeek, State.peek8, State.write8_bus, Bus.write8_dropped s.bus v h]
    rfl

/-- A store has the byte stored and the frame of one write. -/
theorem storeReg_spec (a : Word) (r : Reg8) (s : State) :
    StoredByte a (s.reg8 r) s (storeReg a r s) ∧ Framed [] [] [a] [a] s (storeReg a r s) :=
  ⟨storedByte_of_bus rfl rfl, Framed.write8 s a _⟩

/-- A load gives the byte read, leaves the bus as that read does, and has its frame. -/
theorem loadReg_spec (r : Reg8) (a : Word) (s : State) :
    (loadReg r a s).reg8 r = s.peek8 a ∧ (loadReg r a s).bus = (s.afterRead a).bus ∧
      Framed [r] [] [a] [] s (loadReg r a s) :=
  ⟨reg8_loadReg r a s, bus_loadReg r a s, framed_loadReg r a s⟩

/-- Settles O24: each row is one register write. -/
theorem loadRegister : Obligations.LoadRegister := by
  unfold Obligations.LoadRegister
  refine ⟨fun p hp s => ?_, fun p hp n s => ?_⟩
  · exact ⟨_, exec_copyRows p hp s, State.reg8_setReg8_same s _ _, Framed.setReg8 s _ _⟩
  · exact ⟨_, exec_immRows p hp n s, State.reg8_setReg8_same s _ _, Framed.setReg8 s _ _⟩

/-- Settles O25: each row is one load from the address its operand names before a register is written. -/
theorem loadRegisterFromMemory : Obligations.LoadRegisterFromMemory := by
  unfold Obligations.LoadRegisterFromMemory
  intro nn s
  refine ⟨fun p hp => ⟨_, exec_loadHlRows p hp s, loadReg_spec _ _ _⟩,
    fun p hp => ⟨loadReg .a p.2 s, ?_, loadReg_spec _ _ _⟩⟩
  fin_cases hp <;> rfl

/-- Settles O26: each row is one store. -/
theorem storeRegisterToMemory : Obligations.StoreRegisterToMemory := by
  unfold Obligations.StoreRegisterToMemory
  intro n nn s
  refine ⟨fun p hp => ⟨_, exec_storeHlRows p hp s, storeReg_spec _ _ _⟩,
    ⟨s.write8 (s.pair .hl) n, rfl, storedByte_of_bus rfl rfl, Framed.write8 _ _ _⟩,
    fun p hp => ⟨storeReg p.2 .a s, ?_, storeReg_spec _ _ _⟩⟩
  fin_cases hp <;> rfl

/-! HL steps (`40_load8.md` R143 to R146). -/

theorem toNat_add_ofNat (w : Word) (k : Nat) : (w + BitVec.ofNat 16 k).toNat = (w.toNat + k) % 65536 := by
  simp [BitVec.toNat_add]

/-- HL after a step of it, modulo 2^16. -/
theorem toNat_hl_adjustHl (k : Nat) (s : State) :
    ((adjustHl (BitVec.ofNat 16 k) s).pair .hl).toNat = ((s.pair .hl).toNat + k) % 65536 := by
  rw [← toNat_add_ofNat]
  exact congrArg BitVec.toNat (word_hiByte_loByte _)

/-- Settles O27: the access at the old HL, then a step of HL, which touches neither the bus nor A. -/
theorem loadsThatStepHl : Obligations.LoadsThatStepHl := by
  unfold Obligations.LoadsThatStepHl
  refine ⟨⟨rfl, rfl, rfl, rfl⟩, by decide,
    fun s p hp => ⟨adjustHl (BitVec.ofNat 16 p.2) (storeReg (s.pair .hl) .a s), ?_, storedByte_of_bus rfl rfl,
      toNat_hl_adjustHl _ _, (Framed.write8 s _ _).trans (framed_adjustHl _ _)⟩,
    fun s p hp => ⟨adjustHl (BitVec.ofNat 16 p.2) (loadReg .a (s.pair .hl) s), ?_, rfl, rfl,
      toNat_hl_adjustHl _ _, (framed_loadReg .a _ s).trans (framed_adjustHl _ _)⟩⟩
  all_goals fin_cases hp <;> rfl

/-! The high page (`40_load8.md` R147 to R153). -/

theorem highAddr_unsigned (n : Byte) : highAddr n false = BitVec.ofNat 16 (0xFF00 + n.toNat) := by
  revert n; decide

theorem highAddr_signed (n : Byte) : highAddr n true = BitVec.ofNat 16 (0xFF00 + displacement n) := by
  revert n; decide

theorem ldhAddr_eq_ldhTarget (s : State) (n : Byte) : s.ldhAddr n = ldhTarget s.config.ldhOffset n := by
  unfold State.ldhAddr
  cases s.config.ldhOffset with
  | signed => exact highAddr_signed n
  | unsigned => exact highAddr_unsigned n

/-- Settles O28: the stores and loads at the addresses of the high page. -/
theorem highPageLoads : Obligations.HighPageLoads := by
  unfold Obligations.HighPageLoads
  intro n s
  rw [← highAddr_unsigned, ← ldhAddr_eq_ldhTarget]
  refine ⟨fun p hp => ⟨storeReg p.2 .a s, ?_, storeReg_spec _ _ _⟩,
    fun p hp => ⟨loadReg .a p.2 s, ?_, loadReg_spec _ _ _⟩⟩
  all_goals fin_cases hp <;> rfl

/-! The 16-bit loads. -/

theorem pair16_setPair16_same (s : State) (p : Reg16) (w : Word) : (s.setPair16 p w).pair16 p = w := by
  cases p with
  | sp => rfl
  | bc | de | hl => exact word_hiByte_loByte w

/-- Settles O29: each row is one pair write. -/
theorem loadPair : Obligations.LoadPair := by
  unfold Obligations.LoadPair
  refine ⟨fun p hp nn s => ?_, fun s => ?_⟩
  · exact ⟨_, exec_pairImmRows p hp nn s, pair16_setPair16_same s _ nn, setPair16_sp_of_ne s nn, Kept.setPair16 s _ nn,
      plainButSp_setPair16 s _ nn⟩
  · exact ⟨_, rfl, rfl, Kept.setSp s _, plainButSp_setPair16 s .sp _⟩

theorem framed_loadPairMem_hl (a : Word) (s : State) : Framed [.h, .l] [] [a, a + 1] [] s (loadPairMem .hl a s) :=
  (Framed.read16 s a).trans (Framed.setHl _ _)

/-- Settles O30: a word write and a word read, low byte first. -/
theorem wordLoadsThroughAbsoluteAddress : Obligations.WordLoadsThroughAbsoluteAddress := by
  unfold Obligations.WordLoadsThroughAbsoluteAddress
  intro nn s
  refine ⟨⟨s.write16 nn (s.pair .hl), rfl, ?_, Framed.write16 s nn _⟩,
    ⟨loadPairMem .hl nn s, rfl, loByte_word _ _, hiByte_word _ _, rfl, framed_loadPairMem_hl nn s⟩⟩
  exact congrArg State.bus (s.write16_word nn (s.reg8 .h) (s.reg8 .l))

/-! `LD HL,SP+n` and `ADD SP,n`: the sum and its flags (`41_load16_block.md` R175, `42_arith.md` R200). -/

theorem toNat_spAdd (sp : Word) (e : Byte) : (spAdd sp e).toNat = (sp.toNat + displacement e) % 65536 := by
  rw [spAdd, BitVec.toNat_add, toNat_sext16]
  rfl

theorem spAddFlags_spAddFlags (sp : Word) (e : Byte) (s : State) : SpAddFlags sp e (spAddFlags sp e s) := by
  simp only [SpAddFlags, spAddFlags_flag, gt_iff_lt, and_self]

/-- Settles O31: the encoding by evaluation, then SP's own write under the flag computation. -/
theorem addImmediateToSp : Obligations.AddImmediateToSp := by
  unfold Obligations.AddImmediateToSp
  intro e s
  have hsp : (addSpImm e s).cpu.sp = spAdd s.cpu.sp e := (spAddFlags_only _ _ _).plain.sp
  have hframe : Kept [] [.z, .n, .h, .c] [] [] s (addSpImm e s) :=
    (Kept.setSp s _).trans (Framed.spAddFlags s.cpu.sp e _).kept
  have hplain : PlainButSp s (addSpImm e s) :=
    (plainButSp_setPair16 s .sp _).trans (Framed.spAddFlags s.cpu.sp e _).plain.butSp
  refine ⟨⟨rfl, rfl, rfl, rfl⟩, addSpImm e s, rfl, ?_, spAddFlags_spAddFlags _ _ _, hframe, hplain⟩
  rw [hsp, toNat_spAdd]

/-- Settles O32: HL's own write under the flag computation of `ADD SP,n`. -/
theorem loadHlFromSpPlusImmediate : Obligations.LoadHlFromSpPlusImmediate := by
  unfold Obligations.LoadHlFromSpPlusImmediate
  intro e s
  have hhl : (loadHlSpImm e s).pair .hl = spAdd s.cpu.sp e :=
    ((spAddFlags_only _ _ _).pair16 .hl).trans (pair16_setPair16_same s .hl _)
  refine ⟨loadHlSpImm e s, rfl, ?_, spAddFlags_spAddFlags _ _ _,
    (Framed.setHl s _).trans (Framed.spAddFlags s.cpu.sp e _)⟩
  rw [hhl, toNat_spAdd]

/-! `LDI` (`41_load16_block.md` R177). -/

/-- The pairs of one block-move step: HL and DE go up, BC goes down. -/
def blockPairs (s : State) : State :=
  let s := s.setPair16 .hl (s.pair16 .hl + 1)
  let s := s.setPair16 .de (s.pair16 .de + 1)
  s.setPair16 .bc (s.pair16 .bc - 1)

/-- The flags of one block-move step, BC being past its decrement. -/
def blockFlags (s : State) : State :=
  ((s.setFlag .h false).setFlag .pv (s.pair16 .bc != 0)).setFlag .n false

theorem blockMoveStep_eq (s : State) :
    blockMoveStep s =
      blockFlags (blockPairs ((s.afterRead (s.pair .hl)).write8 (s.pair .de) (s.peek8 (s.pair .hl)))) := rfl

theorem pair16_blockPairs (s : State) :
    (blockPairs s).pair16 .hl = s.pair16 .hl + 1 ∧ (blockPairs s).pair16 .de = s.pair16 .de + 1 ∧
      (blockPairs s).pair16 .bc = s.pair16 .bc - 1 :=
  ⟨word_hiByte_loByte _, word_hiByte_loByte _, word_hiByte_loByte _⟩

theorem framed_blockPairs (s : State) : Framed [.h, .l, .d, .e, .b, .c] [] [] [] s (blockPairs s) :=
  ((Framed.setHl s _).trans (Framed.setPair16 (p := .de) _ _ (by decide))).trans
    (Framed.setPair16 (p := .bc) _ _ (by decide))

theorem framed_blockFlags (s : State) : Framed [] [.h, .pv, .n] [] [] s (blockFlags s) :=
  ((Framed.setFlag s .h false).trans (Framed.setFlag _ .pv _)).trans (Framed.setFlag _ .n false)

theorem flag_blockFlags (s : State) :
    (blockFlags s).flag .h = false ∧ (blockFlags s).flag .n = false ∧
      (s.config.variant = .z80 → (blockFlags s).flag .pv = (s.pair16 .bc != 0)) := by
  refine ⟨?_, ?_, fun hv => ?_⟩ <;> simp [blockFlags, State.flag_setFlag, *]

theorem pair16_blockFlags (s : State) (p : Reg16) : (blockFlags s).pair16 p = s.pair16 p := by
  simp [blockFlags]

theorem bus_blockMoveStep (s : State) :
    (blockMoveStep s).bus = ((s.afterRead (s.pair .hl)).write8 (s.pair .de) (s.peek8 (s.pair .hl))).bus := by
  simp [blockMoveStep_eq, blockFlags, blockPairs]

theorem framed_blockMoveStep (s : State) :
    Framed [.b, .c, .d, .e, .h, .l] [.h, .n, .pv] [s.pair .hl, s.pair .de] [s.pair .de] s (blockMoveStep s) := by
  have hbus := (Framed.afterRead s (s.pair .hl)).trans (Framed.write8 _ (s.pair .de) (s.peek8 (s.pair .hl)))
  have hregs := (hbus.trans (framed_blockPairs _)).trans (framed_blockFlags _)
  exact hregs.mono (by decide) (by decide) (List.Subset.refl _) (List.Subset.refl _)

theorem pair16_blockMoveStep (s : State) :
    (blockMoveStep s).pair16 .hl = s.pair16 .hl + 1 ∧ (blockMoveStep s).pair16 .de = s.pair16 .de + 1 ∧
      (blockMoveStep s).pair16 .bc = s.pair16 .bc - 1 := by
  simp only [blockMoveStep_eq, pair16_blockFlags]
  exact pair16_blockPairs _

theorem flag_blockMoveStep (s : State) :
    (blockMoveStep s).flag .h = false ∧ (blockMoveStep s).flag .n = false ∧
      (s.config.variant = .z80 → (blockMoveStep s).flag .pv = (s.pair16 .bc - 1 != 0)) := by
  obtain ⟨-, -, hbc⟩ := pair16_blockPairs ((s.afterRead (s.pair .hl)).write8 (s.pair .de) (s.peek8 (s.pair .hl)))
  have hflags := flag_blockFlags
    (blockPairs ((s.afterRead (s.pair .hl)).write8 (s.pair .de) (s.peek8 (s.pair .hl))))
  rwa [hbc] at hflags

theorem toNat_sub_one (w : Word) : (w - 1).toNat = (w.toNat + 65535) % 65536 := by
  bv_omega

theorem sub_one_ne_zero (w : Word) : (w - 1 != 0) = decide (w.toNat ≠ 1) := by
  rw [Bool.eq_iff_iff, bne_iff_ne, decide_eq_true_iff]
  bv_omega

/-- Settles O33: the byte moved on the bus, then the pairs, then the flags. -/
theorem blockMoveStep : Obligations.BlockMoveStep := by
  unfold Obligations.BlockMoveStep
  intro s
  obtain ⟨hhl, hde, hbc⟩ := pair16_blockMoveStep s
  obtain ⟨hh, hn, hpv⟩ := flag_blockMoveStep s
  refine ⟨Machine.blockMoveStep s, rfl, bus_blockMoveStep s, ?_, ?_, ?_, hh, hn, fun hv => ?_, framed_blockMoveStep s⟩
  · exact (congrArg BitVec.toNat hhl).trans (toNat_add_ofNat _ 1)
  · exact (congrArg BitVec.toNat hde).trans (toNat_add_ofNat _ 1)
  · exact (congrArg BitVec.toNat hbc).trans (toNat_sub_one _)
  · exact (hpv hv).trans (sub_one_ne_zero _)

end Sys2Proof.Stated

/-! Arithmetic (`42_arith.md` R190 to R205): the value, the flags and the frame of each operation. -/

namespace Sys2Proof.Stated

open Sys2Proof.Machine

theorem exec_incRows : ∀ p ∈ incRows, ∀ s : State, exec p.1 s = .next (incReg p.2 s) := by
  intro p hp
  fin_cases hp <;> exact fun _ => rfl

theorem exec_decRows : ∀ p ∈ decRows, ∀ s : State, exec p.1 s = .next (decReg p.2 s) := by
  intro p hp
  fin_cases hp <;> exact fun _ => rfl

theorem exec_addRows : ∀ p ∈ addRows, ∀ s : State, exec p.1 s = .next (addA (s.reg8 p.2) s) := by
  intro p hp
  fin_cases hp <;> exact fun _ => rfl

theorem exec_swapRows : ∀ p ∈ swapRows, ∀ s : State, exec p.1 s = .next (swapReg p.2 s) := by
  intro p hp
  fin_cases hp <;> exact fun _ => rfl

theorem exec_addHlRows : ∀ p ∈ addHlRows, ∀ s : State, exec p.1 s = .next (addHlPair p.2 s) := by
  intro p hp
  fin_cases hp <;> exact fun _ => rfl

theorem exec_stepPairRows : ∀ q ∈ [(incPairRows, 1), (decPairRows, 65535)], ∀ p ∈ q.1, ∀ s : State,
    exec p.1 s = .next (s.setPair16 p.2 (s.pair16 p.2 + BitVec.ofNat 16 q.2)) := by
  intro q hq p hp s
  have hsub (w : Word) : w - 1 = w + BitVec.ofNat 16 65535 := by bv_omega
  fin_cases hq
  · fin_cases hp <;> rfl
  · rw [← hsub]
    fin_cases hp <;> rfl

/-! Bytes as numbers. -/

theorem toNat_byte_add_one (v : Byte) : (v + 1).toNat = (v.toNat + 1) % 256 := by
  simp [BitVec.toNat_add]

theorem toNat_byte_sub_one (v : Byte) : (v - 1).toNat = (v.toNat + 255) % 256 := by
  bv_omega

theorem beq_zero_eq (v : Byte) : (v == 0) = (v.toNat == 0) := by
  rw [Bool.eq_iff_iff, beq_iff_eq, beq_iff_eq, ← BitVec.toNat_inj]
  rfl

theorem getLsbD_seven (v : Byte) : v.getLsbD 7 = decide (0x80 ≤ v.toNat) := by
  revert v; decide

/-- The signed sum leaves -128..127 exactly if two bytes of one sign have a sum of the other (R204). -/
theorem overflow_eq (a b : Byte) :
    (a.getLsbD 7 == b.getLsbD 7 && (a + b).getLsbD 7 != a.getLsbD 7) =
      decide (signed a + signed b < -128 ∨ 127 < signed a + signed b) := by
  have ha := a.isLt
  have hb := b.isLt
  rw [Bool.eq_iff_iff, decide_eq_true_iff, getLsbD_seven, getLsbD_seven, getLsbD_seven, BitVec.toNat_add]
  simp only [signed, Bool.and_eq_true, beq_iff_eq, bne_iff_ne, ne_eq, decide_eq_decide]
  split <;> split <;> omega

/-! The flags after each flag computation, in the numbers of the rules. -/

/-- The flags depend on the variant and on F alone. -/
theorem flagsZNH_congr {t u : State} {z n h sign pv : Bool} (hc : u.config = t.config) (hf : u.cpu.f = t.cpu.f)
    (ht : FlagsZNH t z n h sign pv) : FlagsZNH u z n h sign pv := by
  simpa only [FlagsZNH, State.flag_congr hc hf, hc] using ht

theorem incFlags_inc8Flags (v : Byte) (s : State) : IncFlags v (inc8Flags v s) := by
  have hz : (v + 1 == 0) = (v.toNat == 0xFF) := by revert v; decide
  have hh : ((v + 1).extractLsb' 0 4 == 0x0#4) = (v.toNat % 16 == 15) := by revert v; decide
  have hpv : (v == 0x7F) = (v.toNat == 0x7F) := by revert v; decide
  simp only [IncFlags, FlagsZNH, inc8Flags_flag, (inc8Flags_only v s).config, hz, hh, hpv, getLsbD_seven,
    toNat_byte_add_one, true_and]
  intro hv
  simp [hv]

theorem decFlags_dec8Flags (v : Byte) (s : State) : DecFlags v (dec8Flags v s) := by
  have hz : (v - 1 == 0) = (v.toNat == 1) := by revert v; decide
  have hh : ((v - 1).extractLsb' 0 4 == 0xF#4) = (v.toNat % 16 == 0) := by revert v; decide
  have hpv : (v == 0x80) = (v.toNat == 0x80) := by revert v; decide
  simp only [DecFlags, FlagsZNH, dec8Flags_flag, (dec8Flags_only v s).config, hz, hh, hpv, getLsbD_seven,
    toNat_byte_sub_one, true_and]
  intro hv
  simp [hv]

theorem addFlags_add8Flags (a b : Byte) (s : State) : AddFlags a b (add8Flags a b s) := by
  have hz : (a + b == 0) = ((a.toNat + b.toNat) % 256 == 0) := by rw [beq_zero_eq, BitVec.toNat_add]
  have hsign : (a + b).getLsbD 7 = decide (0x80 ≤ (a.toNat + b.toNat) % 256) := by
    rw [getLsbD_seven, BitVec.toNat_add]
  have hpv := overflow_eq a b
  rw [hsign] at hpv
  simp only [AddFlags, FlagsZNH, add8Flags_flag, (add8Flags_only a b s).config, hz, hsign, hpv, gt_iff_lt, true_and,
    and_true]
  intro hv
  simp only [hv, beq_self_eq_true, Bool.and_true, and_self]

theorem swapFlags_swapFlags (r : Byte) (s : State) : SwapFlags r (swapFlags r s) := by
  simp only [SwapFlags, swapFlags_flag, and_self]

theorem toNat_swapNibbles (v : Byte) : (swapNibbles v).toNat = v.toNat % 16 * 16 + v.toNat / 16 := by
  revert v; decide

/-! The frames. -/

theorem framed_incReg (r : Reg8) (s : State) : Framed [r] [.z, .n, .h, .s, .pv] [] [] s (incReg r s) :=
  (Framed.inc8Flags _ s).trans (Framed.setReg8 _ r _)

theorem framed_decReg (r : Reg8) (s : State) : Framed [r] [.z, .n, .h, .s, .pv] [] [] s (decReg r s) :=
  (Framed.dec8Flags _ s).trans (Framed.setReg8 _ r _)

theorem framed_addA (b : Byte) (s : State) : Framed [.a] [.z, .n, .h, .c, .s, .pv] [] [] s (addA b s) :=
  (Framed.add8Flags _ b s).trans (Framed.setReg8 _ .a _)

theorem framed_swapReg (r : Reg8) (s : State) : Framed [r] [.z, .n, .h, .c] [] [] s (swapReg r s) :=
  (Framed.setReg8 s r _).trans (Framed.swapFlags _ _)

theorem framed_addHlPair (p : Reg16) (s : State) : Framed [.h, .l] [.n, .h, .c] [] [] s (addHlPair p s) :=
  (Framed.setHl s _).trans (Framed.addHlFlags _ _ _)

theorem framed_addAMem (s : State) :
    Framed [.a] [.z, .n, .h, .c, .s, .pv] [s.pair .hl] [] s (addAMem s) :=
  (Framed.afterRead s _).trans (framed_addA _ _)

/-- `INC (HL)` writes where it read: the flag computation between them keeps HL. -/
theorem incMem_eq (s : State) :
    incMem s = (inc8Flags (s.peek8 (s.pair .hl)) (s.afterRead (s.pair .hl))).write8 (s.pair .hl)
      (s.peek8 (s.pair .hl) + 1) := by
  have hhl := (inc8Flags_only (s.peek8 (s.pair .hl)) (s.afterRead (s.pair .hl))).pair16 .hl
  exact congrArg (State.write8 _ · _) hhl

theorem decMem_eq (s : State) :
    decMem s = (dec8Flags (s.peek8 (s.pair .hl)) (s.afterRead (s.pair .hl))).write8 (s.pair .hl)
      (s.peek8 (s.pair .hl) - 1) := by
  have hhl := (dec8Flags_only (s.peek8 (s.pair .hl)) (s.afterRead (s.pair .hl))).pair16 .hl
  exact congrArg (State.write8 _ · _) hhl

/-- A flag computation between a read and a write leaves the bus to them. -/
theorem bus_write8_of_flagsOnly {s t : State} (h : FlagsOnly s t) (a : Word) (v : Byte) :
    (t.write8 a v).bus = (s.write8 a v).bus := by
  rw [State.write8_bus, State.write8_bus, h.bus, h.config]

/-- Twice the same address is one address accessed. -/
theorem Framed.dedup {regs : List Reg8} {flags : List Flag} {a : Word} {stored : List Word} {s t : State}
    (h : Framed regs flags [a, a] stored s t) : Framed regs flags [a] stored s t :=
  h.mono (List.Subset.refl _) (List.Subset.refl _) (by simp) (List.Subset.refl _)

theorem framed_incMem (s : State) : Framed [] [.z, .n, .h, .s, .pv] [s.pair .hl] [s.pair .hl] s (incMem s) := by
  rw [incMem_eq]
  exact (((Framed.afterRead s _).trans (Framed.inc8Flags _ _)).trans (Framed.write8 _ _ _)).dedup

theorem framed_decMem (s : State) : Framed [] [.z, .n, .h, .s, .pv] [s.pair .hl] [s.pair .hl] s (decMem s) := by
  rw [decMem_eq]
  exact (((Framed.afterRead s _).trans (Framed.dec8Flags _ _)).trans (Framed.write8 _ _ _)).dedup

theorem framed_swapMem (s : State) : Framed [] [.z, .n, .h, .c] [s.pair .hl] [s.pair .hl] s (swapMem s) :=
  (((Framed.afterRead s _).trans (Framed.write8 _ _ _)).trans (Framed.swapFlags _ _)).dedup

/-! The statements. -/

/-- Settles O34: the flag computation, then the register write. -/
theorem incrementRegister : Obligations.IncrementRegister := by
  unfold Obligations.IncrementRegister
  intro p hp s
  refine ⟨_, exec_incRows p hp s, ?_, ?_, framed_incReg _ s⟩
  · rw [incReg, State.reg8_setReg8_same, toNat_byte_add_one]
  · exact flagsZNH_congr (State.setReg8_config _ _ _) (State.setReg8_f _ _ _) (incFlags_inc8Flags _ s)

/-- Settles O35: the flag computation, then the register write. -/
theorem decrementRegister : Obligations.DecrementRegister := by
  unfold Obligations.DecrementRegister
  intro p hp s
  refine ⟨_, exec_decRows p hp s, ?_, ?_, framed_decReg _ s⟩
  · rw [decReg, State.reg8_setReg8_same, toNat_byte_sub_one]
  · exact flagsZNH_congr (State.setReg8_config _ _ _) (State.setReg8_f _ _ _) (decFlags_dec8Flags _ s)

/-- Settles O36: one read at HL, the flag computation, and one write of the stepped byte at the same address. -/
theorem stepMemoryAtHl : Obligations.StepMemoryAtHl := by
  unfold Obligations.StepMemoryAtHl
  intro s a v
  refine ⟨⟨incMem s, v + 1, rfl, toNat_byte_add_one v, ?_, ?_, framed_incMem s⟩,
    ⟨decMem s, v - 1, rfl, toNat_byte_sub_one v, ?_, ?_, framed_decMem s⟩⟩
  · rw [incMem_eq]
    exact bus_write8_of_flagsOnly (inc8Flags_only v _) a _
  · rw [incMem_eq]
    exact flagsZNH_congr rfl rfl (incFlags_inc8Flags v _)
  · rw [decMem_eq]
    exact bus_write8_of_flagsOnly (dec8Flags_only v _) a _
  · rw [decMem_eq]
    exact flagsZNH_congr rfl rfl (decFlags_dec8Flags v _)

/-- Settles O37: each row is one pair write of the pair plus 1 or plus 65535. -/
theorem stepPair : Obligations.StepPair := by
  unfold Obligations.StepPair
  intro q hq p hp s
  refine ⟨_, exec_stepPairRows q hq p hp s, ?_, setPair16_sp_of_ne s _, Kept.setPair16 s _ _,
    plainButSp_setPair16 s _ _⟩
  rw [pair16_setPair16_same, toNat_add_ofNat]

/-- `A <- add8(A, b)`: the sum, its flags and the frame. -/
theorem addA_spec (b : Byte) (s : State) :
    ((addA b s).reg8 .a).toNat = ((s.reg8 .a).toNat + b.toNat) % 256 ∧ AddFlags (s.reg8 .a) b (addA b s) ∧
      Framed [.a] [.z, .n, .h, .c, .s, .pv] [] [] s (addA b s) := by
  refine ⟨?_, ?_, framed_addA b s⟩
  · rw [addA, State.reg8_setReg8_same, BitVec.toNat_add]
  · exact addFlags_add8Flags (s.reg8 .a) b s

/-- Settles O38: each form is `add8` of A and its operand. -/
theorem addToAccumulator : Obligations.AddToAccumulator := by
  unfold Obligations.AddToAccumulator
  refine ⟨fun p hp s => ⟨_, exec_addRows p hp s, addA_spec _ s⟩, fun n s => ⟨addA n s, rfl, addA_spec n s⟩, fun s => ?_⟩
  obtain ⟨hsum, hflags, -⟩ := addA_spec (s.peek8 (s.pair .hl)) (s.afterRead (s.pair .hl))
  exact ⟨addAMem s, rfl, hsum, hflags, (add8Flags_only _ _ _).bus, framed_addAMem s⟩

/-- Settles O39: HL's own write, then the flag computation. -/
theorem addPairToHl : Obligations.AddPairToHl := by
  unfold Obligations.AddPairToHl
  intro p hp s
  have hhl : (addHlPair p.2 s).pair .hl = s.pair .hl + s.pair16 p.2 :=
    ((addHlFlags_only _ _ _).pair16 .hl).trans (pair16_setPair16_same s .hl _)
  refine ⟨_, exec_addHlRows p hp s, ?_, addHlFlags_flag _ _ _ .n, addHlFlags_flag _ _ _ .h, addHlFlags_flag _ _ _ .c,
    framed_addHlPair p.2 s⟩
  rw [hhl, BitVec.toNat_add]

/-- Settles O40: the nibbles exchanged, in the register or at HL, and the flags of the result. -/
theorem swapNibbles : Obligations.SwapNibbles := by
  unfold Obligations.SwapNibbles
  refine ⟨fun p hp s => ?_, fun s => ?_⟩
  · have hval : (swapReg p.2 s).reg8 p.2 = Machine.swapNibbles (s.reg8 p.2) :=
      ((swapFlags_only _ _).reg8 p.2).trans (State.reg8_setReg8_same s _ _)
    refine ⟨_, exec_swapRows p hp s, ?_, ?_, framed_swapReg p.2 s⟩
    · rw [hval, toNat_swapNibbles]
    · rw [hval]
      exact swapFlags_swapFlags _ _
  · exact ⟨swapMem s, _, rfl, toNat_swapNibbles _, (swapFlags_only _ _).bus, swapFlags_swapFlags _ _, framed_swapMem s⟩

end Sys2Proof.Stated

/-! Control transfer and system instructions (`43_control.md` R220 to R240). -/

namespace Sys2Proof.Stated

open Sys2Proof.Machine

theorem exec_jumpRows : ∀ p ∈ jumpRows, ∀ (nn : Word) (s : State),
    exec (p.1 nn) s = .next (whenCond p.2 (jumpTo nn) s) := by
  intro p hp
  fin_cases hp <;> exact fun _ _ => rfl

theorem exec_relativeRows : ∀ p ∈ relativeRows, ∀ (e : Byte) (s : State),
    exec (p.1 e) s = .next (whenCond p.2 (jumpRelative e) s) := by
  intro p hp
  fin_cases hp <;> exact fun _ _ => rfl

theorem exec_callRows : ∀ p ∈ callRows, ∀ (nn : Word) (s : State),
    exec (p.1 nn) s = .next (whenCond p.2 (callTo nn) s) := by
  intro p hp
  fin_cases hp <;> exact fun _ _ => rfl

theorem exec_returnRows : ∀ p ∈ returnRows, ∀ s : State, exec p.1 s = .next (whenCond p.2 returnFrom s) := by
  intro p hp
  fin_cases hp <;> exact fun _ => rfl

theorem whenCond_of_true {s : State} {cc : Cond} (f : State → State) (h : s.cond cc = true) : whenCond cc f s = f s :=
  if_pos h

theorem whenCond_of_false {s : State} {cc : Cond} (f : State → State) (h : s.cond cc = false) : whenCond cc f s = s :=
  if_neg (by simp [h])

/-- The frame of a jump: all but PC. -/
def JumpFrame (s t : State) : Prop := t.cpu.sp = s.cpu.sp ∧ SameInterrupts s t ∧ Kept [] [] [] [] s t

theorem jumpFrame_setPc (s : State) (w : Word) : JumpFrame s (s.setPc w) :=
  ⟨rfl, ⟨rfl, rfl, rfl⟩, Kept.setPc s w⟩

theorem jumpFrame_refl (s : State) : JumpFrame s s := jumpFrame_setPc s s.cpu.pc

/-- A conditional jump: PC takes the target, or stays. -/
theorem whenCond_setPc_spec (cc : Cond) (f : State → State) (w : Word) (s : State) (hf : f s = s.setPc w) :
    (whenCond cc f s).cpu.pc = (if s.cond cc then w else s.cpu.pc) ∧ JumpFrame s (whenCond cc f s) := by
  cases h : s.cond cc with
  | true =>
    rw [whenCond_of_true f h, hf]
    exact ⟨rfl, jumpFrame_setPc s w⟩
  | false =>
    rw [whenCond_of_false f h]
    exact ⟨rfl, jumpFrame_refl s⟩

/-- Settles O41: each jump is a write of PC, or nothing. -/
theorem jumps : Obligations.Jumps := by
  unfold Obligations.Jumps
  exact ⟨fun nn s => ⟨_, rfl, rfl, jumpFrame_setPc s nn⟩, fun s => ⟨_, rfl, rfl, jumpFrame_setPc s _⟩,
    fun p hp nn s => ⟨_, exec_jumpRows p hp nn s, whenCond_setPc_spec p.2 _ nn s rfl⟩⟩

theorem toNat_add_sext16 (w : Word) (e : Byte) : (w + sext16 e).toNat = (w.toNat + displacement e) % 65536 :=
  toNat_spAdd w e

/-- Settles O42: each jump is a write of PC plus the displacement, or nothing. -/
theorem relativeJumps : Obligations.RelativeJumps := by
  unfold Obligations.RelativeJumps
  refine ⟨fun e s => ⟨_, rfl, toNat_add_sext16 _ e, jumpFrame_setPc s _⟩, fun p hp e s => ?_⟩
  obtain ⟨hpc, hframe⟩ := whenCond_setPc_spec p.2 (jumpRelative e) (s.cpu.pc + sext16 e) s rfl
  refine ⟨_, exec_relativeRows p hp e s, ?_, hframe⟩
  rw [hpc, apply_ite BitVec.toNat, toNat_add_sext16]

/-! Calls and returns. -/

theorem sub_two_add_one (w : Word) : w - 2 + 1 = w - 1 := by
  bv_omega

theorem sub_two_add_two (w : Word) : w - 2 + 2 = w := by
  bv_omega

/-- The push as its two byte writes, low byte first (R230, D11). -/
theorem bus_push16 (s : State) (w : Word) :
    (s.push16 w).bus = ((s.write8 (s.cpu.sp - 2) (loByte w)).write8 (s.cpu.sp - 1) (hiByte w)).bus := by
  rw [State.push16_bus, State.write16, sub_two_add_one]

theorem kept_push16 (s : State) (w : Word) :
    Kept [] [] [s.cpu.sp - 2, s.cpu.sp - 1] [s.cpu.sp - 2, s.cpu.sp - 1] s (s.push16 w) := by
  rw [← sub_two_add_one]
  exact (Kept.setSp s (s.cpu.sp - 2)).trans (Kept.write16 _ (s.cpu.sp - 2) w)

theorem kept_pop16 (s : State) : Kept [] [] [s.cpu.sp, s.cpu.sp + 1] [] s s.pop16.2 :=
  (Kept.read16 s s.cpu.sp).trans (Kept.setSp _ _)

theorem kept_callTo (nn : Word) (s : State) :
    Kept [] [] [s.cpu.sp - 2, s.cpu.sp - 1] [s.cpu.sp - 2, s.cpu.sp - 1] s (callTo nn s) :=
  (kept_push16 s s.cpu.pc).trans (Kept.setPc _ nn)

theorem kept_returnFrom (s : State) : Kept [] [] [s.cpu.sp, s.cpu.sp + 1] [] s (returnFrom s) :=
  (kept_pop16 s).trans (Kept.setPc _ _)

/-- Settles O43: a call is the push of PC and the jump; a call not taken is nothing. -/
theorem calls : Obligations.Calls := by
  unfold Obligations.Calls
  refine ⟨fun nn s => ⟨callTo nn s, rfl, rfl, rfl, bus_push16 s _, ⟨rfl, rfl, rfl⟩, kept_callTo nn s⟩,
    fun p hp nn s => ?_⟩
  rw [exec_callRows p hp nn s]
  refine ⟨fun h => ⟨callTo nn s, ?_, rfl⟩, fun h => ?_⟩
  · rw [whenCond_of_true _ h]
  · rw [whenCond_of_false _ h]

/-- Settles O44: a return is the pop into PC; a return not taken is nothing. -/
theorem returns : Obligations.Returns := by
  unfold Obligations.Returns
  refine ⟨fun s => ⟨returnFrom s, rfl, toNat_word _ _, rfl, rfl, ⟨rfl, rfl, rfl⟩, kept_returnFrom s⟩,
    fun s => ⟨enableInterrupts (returnFrom s), returnFrom s, rfl, rfl, rfl, rfl,
      (kept_returnFrom s).trans (Kept.setIff _ true)⟩,
    fun p hp s => ?_⟩
  rw [exec_returnRows p hp s]
  refine ⟨fun h => ⟨returnFrom s, ?_, rfl⟩, fun h => ?_⟩
  · rw [whenCond_of_true _ h]
  · rw [whenCond_of_false _ h]

/-- A word written to RAM reads back. -/
theorem read16_write16_of_ram {s : State} {a : Word} (w : Word) (ha : ownerOf s.config a = some .ram)
    (hn : ownerOf s.config (a + 1) = some .ram) : ((s.write16 a w).read16 a).1 = w := by
  obtain ⟨-, -, -, hram⟩ := wordsAreTwoBytesLowByteFirst s a w (a + 1) (toNat_add_ofNat a 1)
  exact (hram ha hn).1

/-- Settles O45: the pop reads the word that the push wrote. -/
theorem returnUndoesCall : Obligations.ReturnUndoesCall := by
  unfold Obligations.ReturnUndoesCall
  intro nn s t u hlo hhi hcall hret
  cases hcall
  cases hret
  rw [← sub_two_add_one] at hhi
  have hpc : (returnFrom (callTo nn s)).cpu.pc = s.cpu.pc :=
    read16_write16_of_ram (s := s.setSp (s.cpu.sp - 2)) s.cpu.pc hlo hhi
  have hsp : (returnFrom (callTo nn s)).cpu.sp = s.cpu.sp := sub_two_add_two s.cpu.sp
  calc (returnFrom (callTo nn s)).cpu
      = { s.cpu with pc := (returnFrom (callTo nn s)).cpu.pc, sp := (returnFrom (callTo nn s)).cpu.sp } := rfl
    _ = s.cpu := by rw [hpc, hsp]

/-- Settles O46: each is one write of the interrupt state, or nothing. -/
theorem systemInstructions : Obligations.SystemInstructions := by
  unfold Obligations.SystemInstructions
  exact fun s => ⟨rfl, ⟨_, rfl, rfl, rfl, Kept.setIff s false⟩, ⟨_, rfl, rfl, rfl, Kept.setEiPending s true⟩⟩

end Sys2Proof.Stated

/-! Which instructions leave the interrupt state (`10_state.md` R31, R32), F (R28) and memory (`20_memory.md` R73). -/

namespace Sys2Proof.Machine

open Sys2Proof.Stated

/-- What holds of a transfer taken and of one not taken holds of a conditional transfer. -/
theorem whenCond_ind {P : State → Prop} {cc : Cond} {f : State → State} {s : State} (hf : P (f s)) (hs : P s) :
    P (whenCond cc f s) := ReadClosed.whenCond hs cc hf

/-- Only `DI`, `EI` and `RETI` write the interrupt state: the flag writers by their frames, a transfer whether or not it
is taken, and the others write other fields. -/
theorem exec_sameInterrupts {i : Instr} {s t : State} (h : exec i s = .next t) (hdi : i ≠ .di) (hei : i ≠ .ei)
    (hreti : i ≠ .reti) : SameInterrupts s t := by
  cases i with
  | di => exact absurd rfl hdi
  | ei => exact absurd rfl hei
  | reti => exact absurd rfl hreti
  | incB | incC | incD | incE | incH | incL | incA => cases h; exact (framed_incReg _ s).sameInterrupts
  | decB | decC | decD | decE | decH | decL | decA => cases h; exact (framed_decReg _ s).sameInterrupts
  | addAB | addAC | addAD | addAE | addAH | addAL | addAA | addAN n => cases h; exact (framed_addA _ s).sameInterrupts
  | swapB | swapC | swapD | swapE | swapH | swapL | swapA => cases h; exact (framed_swapReg _ s).sameInterrupts
  | addHlBc | addHlDe | addHlHl | addHlSp => cases h; exact (framed_addHlPair _ s).sameInterrupts
  | incHlInd => cases h; exact (framed_incMem s).sameInterrupts
  | decHlInd => cases h; exact (framed_decMem s).sameInterrupts
  | addAHlInd => cases h; exact (framed_addAMem s).sameInterrupts
  | swapHlInd => cases h; exact (framed_swapMem s).sameInterrupts
  | ldi => cases h; exact (framed_blockMoveStep s).sameInterrupts
  | addSpN e | ldHlSpN e => cases h; exact (Framed.spAddFlags s.cpu.sp e (s.setPair16 _ _)).sameInterrupts
  | ldHlIncA | ldHlDecA => cases h; exact (framed_adjustHl _ (storeReg (s.pair .hl) .a s)).sameInterrupts
  | jrNz e | jrZ e | jrNc e | jrC e
  | jpNz nn | jpZ nn | jpNc nn | jpC nn | jpPo nn | jpPe nn | jpP nn | jpM nn
  | callNz nn | callZ nn | callNc nn | callC nn | callPo nn | callPe nn | callP nn | callM nn
  | retNz | retZ | retNc | retC | retPo | retPe | retP | retM =>
    cases h
    exact whenCond_ind (P := SameInterrupts s) ⟨rfl, rfl, rfl⟩ ⟨rfl, rfl, rfl⟩
  | _ => cases h; exact ⟨rfl, rfl, rfl⟩

/-- Of all instructions `EI` alone writes the pending flag (D10: `DI` does not). -/
theorem exec_eiPending {i : Instr} {s t : State} (h : exec i s = .next t) (hei : i ≠ .ei) :
    t.cpu.eiPending = s.cpu.eiPending := by
  by_cases hdi : i = .di
  · subst hdi; cases h; rfl
  by_cases hreti : i = .reti
  · subst hreti; cases h; rfl
  exact (exec_sameInterrupts h hdi hei hreti).eiPending

/-- Settles O7: with no `EI` pending the step ends as the instruction leaves it. -/
theorem onlyDiRetiEiTouchInterrupts : Obligations.OnlyDiRetiEiTouchInterrupts := by
  unfold Obligations.OnlyDiRetiEiTouchInterrupts
  intro s u t i rest hturn hpend hd hstep
  have hstart : SameInterrupts s (execState u) := by
    rw [SameInterrupts, execState, State.setPc, fetch_cpu, eq_of_cpuTurn hturn]
    exact ⟨rfl, rfl, rfl⟩
  rw [step_of_cpuTurn hturn] at hstep
  obtain ⟨j, rest', v, hd', hexec, rfl⟩ := cpuStep_next hstep
  rw [fetch_of_cpuTurn hturn, eq_of_cpuTurn hturn, hd] at hd'
  cases hd'
  have hfinish : v.finishEi u.cpu.eiPending = v := by
    rw [eq_of_cpuTurn hturn, hpend, State.finishEi_false]
  rw [hfinish]
  by_cases hei : i = .ei
  · subst hei
    cases hexec
    obtain ⟨hiff1, hiff2, -⟩ := hstart
    exact ⟨fun _ _ => ⟨hiff1, hiff2⟩, fun _ => rfl, fun _ => rfl⟩
  · have hnone : v.cpu.eiPending = false := (exec_eiPending hexec hei).trans (hstart.eiPending.trans hpend)
    refine ⟨fun hdi hreti => ?_, by simp [hnone, hei]⟩
    obtain ⟨hiff1, hiff2, -⟩ := hstart.trans (exec_sameInterrupts hexec hdi hei hreti)
    exact ⟨hiff1, hiff2⟩

/-- Settles O16: the rows outside the table write other fields than F, whether or not a transfer is taken. -/
theorem otherInstructionsKeepF : Obligations.OtherInstructionsKeepF := by
  unfold Obligations.OtherInstructionsKeepF
  intro i s t hi h
  cases i with
  | incB | incC | incD | incE | incH | incL | incA | decB | decC | decD | decE | decH | decL | decA
  | addAB | addAC | addAD | addAE | addAH | addAL | addAA | swapB | swapC | swapD | swapE | swapH | swapL | swapA
  | addHlBc | addHlDe | addHlHl | addHlSp | incHlInd | decHlInd | addAHlInd | swapHlInd | ldi =>
    exact absurd (.inl (by decide)) hi
  | addAN n => exact absurd (.inr (.inl ⟨n, rfl⟩)) hi
  | addSpN e => exact absurd (.inr (.inr (.inl ⟨e, rfl⟩))) hi
  | ldHlSpN e => exact absurd (.inr (.inr (.inr ⟨e, rfl⟩))) hi
  | ldHlIncA | ldHlDecA => cases h; exact State.regF_setPair16 (storeReg (s.pair .hl) .a s) .hl _
  | jrNz e | jrZ e | jrNc e | jrC e
  | jpNz nn | jpZ nn | jpNc nn | jpC nn | jpPo nn | jpPe nn | jpP nn | jpM nn
  | callNz nn | callZ nn | callNc nn | callC nn | callPo nn | callPe nn | callP nn | callM nn
  | retNz | retZ | retNc | retC | retPo | retPe | retP | retM =>
    cases h
    exact whenCond_ind (P := fun t => t.regF = s.regF) rfl rfl
  | _ => cases h; rfl

/-- The rows that `mayWrite` marks are those of the table of accesses. -/
theorem stores_of_mayWrite {i : Instr} (h : mayWrite i = true) : Stores i := by
  cases i with
  | ldHlIndB | ldHlIndC | ldHlIndD | ldHlIndE | ldHlIndH | ldHlIndL | ldHlIndA | incHlInd | decHlInd | swapHlInd
  | ldBcIndA | ldDeIndA | ldHlIncA | ldHlDecA | ldCIndA | ldi =>
    exact .inl (by decide)
  | ldHlIndN n => exact .inr (.inl ⟨n, rfl⟩)
  | ldhNIndA n => exact .inr (.inr (.inl ⟨n, rfl⟩))
  | ldNnIndAZ80 nn => exact .inr (.inr (.inr (.inl ⟨nn, .inl rfl⟩)))
  | ldNnIndALr nn => exact .inr (.inr (.inr (.inl ⟨nn, .inr (.inl rfl)⟩)))
  | ldNnIndHl nn => exact .inr (.inr (.inr (.inl ⟨nn, .inr (.inr (.inl rfl))⟩)))
  | call nn => exact .inr (.inr (.inr (.inl ⟨nn, .inr (.inr (.inr rfl))⟩)))
  | callNz nn => exact .inr (.inr (.inr (.inr ⟨(.callNz, .nz), by simp [callRows], nn, rfl⟩)))
  | callZ nn => exact .inr (.inr (.inr (.inr ⟨(.callZ, .z), by simp [callRows], nn, rfl⟩)))
  | callNc nn => exact .inr (.inr (.inr (.inr ⟨(.callNc, .nc), by simp [callRows], nn, rfl⟩)))
  | callC nn => exact .inr (.inr (.inr (.inr ⟨(.callC, .c), by simp [callRows], nn, rfl⟩)))
  | callPo nn => exact .inr (.inr (.inr (.inr ⟨(.callPo, .po), by simp [callRows], nn, rfl⟩)))
  | callPe nn => exact .inr (.inr (.inr (.inr ⟨(.callPe, .pe), by simp [callRows], nn, rfl⟩)))
  | callP nn => exact .inr (.inr (.inr (.inr ⟨(.callP, .p), by simp [callRows], nn, rfl⟩)))
  | callM nn => exact .inr (.inr (.inr (.inr ⟨(.callM, .m), by simp [callRows], nn, rfl⟩)))
  | _ => cases h

/-- The parameters, the storage and the APU are these. -/
def HasMemory (c : Config) (m : Memory) (u : Apu) (s : State) : Prop :=
  s.config = c ∧ s.bus.mem = m ∧ s.bus.apu = u

/-- Only a bus write changes the storage or the APU. -/
theorem hasMemory_readClosed (c : Config) (m : Memory) (u : Apu) : ReadClosed (HasMemory c m u) where
  setReg8 s r v h := by simpa [HasMemory] using h
  setPair16 s p w h := by simpa [HasMemory] using h
  setFlag s fl b h := by simpa [HasMemory] using h
  setPc s w h := h
  setIff s b h := h
  setEiPending s b h := h
  afterRead s a h := by simpa [HasMemory] using h

/-- A byte that no platform-supplied peripheral owns depends on the parameters, the storage and the APU alone. -/
theorem peek8_of_hasMemory {s t : State} {a : Word} (h : HasMemory s.config s.bus.mem s.bus.apu t)
    (ha : notPlatform s.config a) : t.peek8 a = s.peek8 a := by
  obtain ⟨hc, hm, hu⟩ := h
  unfold State.peek8 Bus.peek8
  rw [hc, hm, hu]
  cases ho : ownerOf s.config a with
  | none => rfl
  | some d =>
    cases d with
    | platform id => exact absurd ho (ha id)
    | ram | rom | apu => rfl

/-- Settles O17: an instruction outside the table is built of reads and register writes. -/
theorem otherInstructionsStoreNothing : Obligations.OtherInstructionsStoreNothing := by
  unfold Obligations.OtherInstructionsStoreNothing
  intro i s t hi h
  have hw : mayWrite i = false := by
    rw [← Bool.not_eq_true]
    exact mt stores_of_mayWrite hi
  have hmem : HasMemory s.config s.bus.mem s.bus.apu t :=
    exec_keeps_of_reads (hasMemory_readClosed _ _ _) hw h ⟨rfl, rfl, rfl⟩
  have hbytes (a : Word) (ha : notPlatform s.config a) : t.peek8 a = s.peek8 a := peek8_of_hasMemory hmem ha
  obtain ⟨-, hm, hu⟩ := hmem
  exact ⟨hm, hu, hbytes⟩

end Sys2Proof.Machine

/-! The fatal decode error and the end of a run (`60_exceptions.md` R250 to R263). -/

namespace Sys2Proof.Machine

open Sys2Proof.Stated

/-- Taking the decode error completes the pending `EI`; a flag that was not pending is clear already. -/
theorem finishEi_cpu (s : State) :
    (s.finishEi s.cpu.eiPending).cpu =
      { s.cpu with
        iff1 := s.cpu.iff1 || s.cpu.eiPending, iff2 := s.cpu.iff2 || s.cpu.eiPending, eiPending := false } := by
  cases h : s.cpu.eiPending with
  | true => simp only [Bool.or_true]; rfl
  | false => rw [State.finishEi_false, Bool.or_false, Bool.or_false, ← h]

/-- A fetch leaves the storage and the APU. -/
theorem fetch_bus_mem (s : State) : (fetch s).2.bus.mem = s.bus.mem :=
  fetch_bus_ind (P := fun b => b.mem = s.bus.mem) (fun b a h => (Bus.afterRead_mem _ b a).trans h) rfl

theorem fetch_bus_apu (s : State) : (fetch s).2.bus.apu = s.bus.apu :=
  fetch_bus_ind (P := fun b => b.apu = s.bus.apu) (fun b a h => (Bus.afterRead_apu _ b a).trans h) rfl

/-- The state that a decode error leaves (R251). -/
def errorState (s : State) : State := (fetch s).2.takeDecodeError s.cpu.eiPending (fetch s).1

theorem errorState_status (s : State) : (errorState s).status = .fatal (.decodeError s.cpu.pc (fetch s).1) := by
  rw [errorState, State.takeDecodeError, fetch_cpu]

theorem errorState_cpu (s : State) :
    (errorState s).cpu =
      { s.cpu with
        iff1 := s.cpu.iff1 || s.cpu.eiPending, iff2 := s.cpu.iff2 || s.cpu.eiPending, eiPending := false } := by
  have h := finishEi_cpu (fetch s).2
  rwa [fetch_cpu] at h

theorem errorState_bus (s : State) : (errorState s).bus = (fetch s).2.bus := State.finishEi_bus _ _

theorem errorState_config (s : State) : (errorState s).config = s.config :=
  (State.finishEi_config _ _).trans (fetch_config s)

theorem errorState_schedule (s : State) : (errorState s).schedule = s.schedule :=
  (State.finishEi_schedule _ _).trans (fetch_schedule s)

theorem errorState_callReturn (s : State) : (errorState s).callReturn = s.callReturn :=
  (State.finishEi_callReturn _ _).trans (fetch_callReturn s)

/-- Settles O8: the error state of the CPU's turn, whose fetch and CPU are those of the state before the turn. -/
theorem unrecognisedBytesAreFatal : Obligations.UnrecognisedBytesAreFatal := by
  unfold Obligations.UnrecognisedBytesAreFatal
  intro s u hturn
  have hcpu : u.cpu = s.cpu := by rw [eq_of_cpuTurn hturn]
  have hconfig : u.config = s.config := by rw [eq_of_cpuTurn hturn]
  have hbus : u.bus = s.bus := by rw [eq_of_cpuTurn hturn]
  have hcall : u.callReturn = s.callReturn := by rw [eq_of_cpuTurn hturn]
  have hbytes := fetch_of_cpuTurn hturn
  have hstatus : (errorState u).status = .fatal (.decodeError s.cpu.pc (fetch s).1) := by
    rw [errorState_status, hcpu, hbytes]
  have hstep (e : Reject) (he : decode s.config.variant (fetch s).1 = .error e) :
      step s = .fault (.decodeError (errorState u)) := by
    rw [step_of_cpuTurn hturn]
    exact cpuStep_of_reject (by rw [hconfig, hbytes]; exact he)
  refine ⟨fun e he => ⟨errorState u, hstep e he, hstatus, fetch_length_le_two_of_reject he, ?_, ?_, ?_, ?_, ?_, ?_⟩,
    fun hnone => ?_⟩
  · rw [errorState_cpu, hcpu]
  · rw [errorState_bus, fetch_bus_mem, hbus]
  · rw [errorState_bus, fetch_bus_apu, hbus]
  · rw [errorState_config, hconfig]
  · rw [errorState_schedule]
  · rw [errorState_callReturn, hcall]
  · have hff := fetch_of_unowned hnone
    rw [hff] at hstep hstatus
    exact ⟨errorState u, hstep _ (decode_unowned _), hstatus⟩

/-- A CPU step either answers a next state or stops with the decode error. -/
theorem cpuStep_cases (s : State) :
    (∃ t, cpuStep s = .next t) ∨
      ∃ e, decode s.config.variant (fetch s).1 = .error e ∧ cpuStep s = .fault (.decodeError (errorState s)) := by
  cases hd : decode s.config.variant (fetch s).1 with
  | ok p =>
    obtain ⟨t, ht⟩ := exec_next p.1 (execState s)
    exact .inl ⟨_, cpuStep_of_exec hd ht⟩
  | error e => exact .inr ⟨e, rfl, cpuStep_of_reject hd⟩

/-- A running machine takes the CPU's turn, or its step answers a next state without the CPU. -/
theorem step_cases_of_running {s : State} (hrun : s.status = .running) :
    (∃ u, CpuTurn s u) ∨ ∃ t, step s = .next t := by
  cases hcall : s.callReturn with
  | some pc0 =>
    by_cases hpc : s.cpu.pc = pc0
    · exact .inr ⟨{ s with callReturn := none }, by simp [step, takeTurn, hrun, hcall, hpc]⟩
    · exact .inl ⟨s, .inCall pc0 hrun hcall hpc⟩
  | none =>
    cases hsch : s.schedule with
    | nil => exact .inl ⟨s, .idle hrun hcall hsch⟩
    | cons turn rest =>
      cases turn with
      | cpu => exact .inl ⟨_, .scheduled rest hrun hcall hsch⟩
      | host act => exact .inr ⟨_, step_of_host hrun hcall hsch⟩

/-- No operation a step is built of writes the status. -/
theorem running_stepClosed : StepClosed (fun s => s.status = .running) where
  setReg8 s r v h := by simpa using h
  setPair16 s p w h := by simpa using h
  setFlag s fl b h := by simpa using h
  setPc s w h := h
  setIff s b h := h
  setEiPending s b h := h
  afterRead s a h := h
  write8 s a v h := h
  clock256hz s h := by simpa using h
  setSchedule s l h := h
  setCallReturn s r h := h

/-- Settles O9: only a CPU step can stop, and only by the decode error. -/
theorem onlyDecodeErrorsStopTheMachine : Obligations.OnlyDecodeErrorsStopTheMachine := by
  unfold Obligations.OnlyDecodeErrorsStopTheMachine
  intro s
  refine ⟨fun hrun => ?_, fun r hr => by simp [step, takeTurn, hr]⟩
  rcases step_cases_of_running hrun with ⟨u, hturn⟩ | ⟨t, ht⟩
  · rcases cpuStep_cases u with ⟨t, ht⟩ | ⟨e, he, hfault⟩
    · rw [← step_of_cpuTurn hturn] at ht
      exact .inl ⟨t, ht, running_stepClosed.step hrun ht⟩
    · rw [fetch_of_cpuTurn hturn, eq_of_cpuTurn hturn] at he
      refine .inr ⟨errorState u, e, by rw [step_of_cpuTurn hturn, hfault], he, ?_⟩
      rw [errorState_status, fetch_of_cpuTurn hturn, eq_of_cpuTurn hturn]
  · exact .inl ⟨t, ht, running_stepClosed.step hrun ht⟩

/-! Construction and reset (`10_state.md` R40, `60_exceptions.md` R275). -/

/-- Construction meets the invariant: F as constructed is masked, and the APU is silent. -/
theorem inv_launch {c : Config} {v : Launch} (hc : c.wf) (hwf : v.mem.wf) (hin : v.mem.within 0 0xFFFF)
    (hown : ∀ x ∈ v.mem, ownerOf c (BitVec.ofNat 16 x.1) = some .ram ∨ ownerOf c (BitVec.ofNat 16 x.1) = some .rom) :
    Inv (State.launch c v) := by
  have hlength : (0 : BitVec 7) ≤ 64 := by decide
  refine ⟨hc, ⟨hwf, hin, hown, Memory.wf_nil, List.forall_mem_nil _, hlength, hlength⟩, ?_, rfl, rfl⟩
  cases hv : c.variant <;> simp only [State.launch, hv] <;> rfl

/-- Settles O12: construction meets the invariant, and `State.reset` is a case of it. -/
theorem constructionMeetsInvariant : Obligations.ConstructionMeetsInvariant := by
  unfold Obligations.ConstructionMeetsInvariant
  exact ⟨fun c v => inv_launch, inv_launch (by decide) Memory.wf_nil (List.forall_mem_nil _) (List.forall_mem_nil _)⟩

/-- F reads 0xFF on the Z80 and, masked, 0xF0 on the LR35902 (conflict C1, D7). -/
theorem regF_launch (c : Config) (v : Launch) :
    (State.launch c v).regF = if c.variant = .z80 then 0xFF else 0xF0 := by
  cases hv : c.variant <;> simp only [State.regF, State.launch, hv] <;> rfl

/-- Settles O13: construction gives each of these fields. -/
theorem constructionValues : Obligations.ConstructionValues := by
  unfold Obligations.ConstructionValues
  exact fun c v => ⟨rfl, rfl, rfl, regF_launch c v, rfl, rfl, rfl, rfl, rfl, rfl, rfl, fun _ => rfl⟩

end Sys2Proof.Machine

/-! Noninterference: states that no program can tell apart stay so (`10_state.md` R30, R31; `60_exceptions.md` R288). -/

namespace Sys2Proof.Stated

open Sys2Proof.Machine

namespace SameToPrograms

variable {s s' : State} (h : SameToPrograms s s')
include h

/-! What a program reads. -/

theorem pair16 (p : Reg16) : s'.pair16 p = s.pair16 p := by
  cases p with
  | bc => exact congrArg₂ word (h.regs .b) (h.regs .c)
  | de => exact congrArg₂ word (h.regs .d) (h.regs .e)
  | hl => exact congrArg₂ word (h.regs .h) (h.regs .l)
  | sp => exact h.sp

theorem peek8 {a a' : Word} (ha : a' = a) : s'.peek8 a' = s.peek8 a := by
  subst ha
  simp only [State.peek8, Bus.peek8, Apu.read, Bus.history, h.config, h.mem, h.shadowRam, h.devLog]

theorem cond (cc : Cond) : s'.cond cc = s.cond cc := by
  have hflag (fl : Flag) : s'.flag fl = s.flag fl := State.flag_congr h.config h.f fl
  cases cc <;> simp only [State.cond, hflag]

/-! The operations instructions are built of, on equal arguments. -/

theorem setReg8 (r : Reg8) {v v' : Byte} (hv : v' = v) : SameToPrograms (s.setReg8 r v) (s'.setReg8 r v') := by
  subst hv
  constructor <;> intros <;> simp [State.reg8_setReg8, h.config, h.status, h.schedule, h.callReturn, h.regs, h.f, h.sp,
    h.pc, h.eiPending, h.mem, h.shadowRam, h.devLog]

theorem setSp {w w' : Word} (hw : w' = w) : SameToPrograms (s.setSp w) (s'.setSp w') :=
  ⟨h.config, h.status, h.schedule, h.callReturn, fun r => by simpa using h.regs r, h.f, hw, h.pc, h.eiPending, h.mem,
    h.shadowRam, h.devLog⟩

/-- A pair write is two byte writes, or that of SP. -/
theorem setPair16 (p : Reg16) {w w' : Word} (hw : w' = w) :
    SameToPrograms (s.setPair16 p w) (s'.setPair16 p w') := by
  have hhi : hiByte w' = hiByte w := congrArg hiByte hw
  have hlo : loByte w' = loByte w := congrArg loByte hw
  cases p with
  | bc => exact (h.setReg8 .b hhi).setReg8 .c hlo
  | de => exact (h.setReg8 .d hhi).setReg8 .e hlo
  | hl => exact (h.setReg8 .h hhi).setReg8 .l hlo
  | sp => exact h.setSp hw

theorem setF {f f' : Byte} (hf : f' = f) : SameToPrograms (s.setF f) (s'.setF f') :=
  ⟨h.config, h.status, h.schedule, h.callReturn, fun r => by simpa using h.regs r, by simp [hf, h.config], h.sp, h.pc,
    h.eiPending, h.mem, h.shadowRam, h.devLog⟩

theorem setFlag (fl : Flag) {b b' : Bool} (hb : b' = b) : SameToPrograms (s.setFlag fl b) (s'.setFlag fl b') := by
  unfold State.setFlag
  rw [h.config, State.regF_congr h.config h.f, hb]
  split
  · exact h.setF rfl
  · exact h

theorem setPc {w w' : Word} (hw : w' = w) : SameToPrograms (s.setPc w) (s'.setPc w') :=
  ⟨h.config, h.status, h.schedule, h.callReturn, fun r => by simpa using h.regs r, h.f, h.sp, hw, h.eiPending, h.mem,
    h.shadowRam, h.devLog⟩

theorem setIff (b b' : Bool) : SameToPrograms (s.setIff b) (s'.setIff b') :=
  ⟨h.config, h.status, h.schedule, h.callReturn, fun r => by simpa using h.regs r, h.f, h.sp, h.pc, h.eiPending, h.mem,
    h.shadowRam, h.devLog⟩

theorem setEiPending (b : Bool) : SameToPrograms (s.setEiPending b) (s'.setEiPending b) :=
  ⟨h.config, h.status, h.schedule, h.callReturn, fun r => by simpa using h.regs r, h.f, h.sp, h.pc, rfl, h.mem,
    h.shadowRam, h.devLog⟩

theorem finishEi {b b' : Bool} (hb : b' = b) : SameToPrograms (s.finishEi b) (s'.finishEi b') := by
  subst hb
  cases b' with
  | true => exact (h.setIff true true).setEiPending false
  | false => exact h

theorem afterRead {a a' : Word} (ha : a' = a) : SameToPrograms (s.afterRead a) (s'.afterRead a') := by
  subst ha
  refine ⟨h.config, h.status, h.schedule, h.callReturn, fun r => by simpa using h.regs r, h.f, h.sp, h.pc, h.eiPending,
    by simpa using h.mem, by simpa using h.shadowRam, ?_⟩
  rw [State.afterRead_bus, State.afterRead_bus, h.config]
  unfold Bus.afterRead
  split <;> simp only [h.devLog]

theorem write8 {a a' : Word} (ha : a' = a) {v v' : Byte} (hv : v' = v) :
    SameToPrograms (s.write8 a v) (s'.write8 a' v') := by
  subst ha hv
  refine ⟨h.config, h.status, h.schedule, h.callReturn, fun r => by simpa using h.regs r, h.f, h.sp, h.pc, h.eiPending,
    ?_, ?_, ?_⟩ <;>
  · rw [State.write8_bus, State.write8_bus, h.config]
    unfold Bus.write8
    split <;> simp only [Apu.write_shadow, h.mem, h.shadowRam, h.devLog]

/-! The meanings. -/

theorem loadReg (r : Reg8) {a a' : Word} (ha : a' = a) : SameToPrograms (loadReg r a s) (loadReg r a' s') :=
  (h.afterRead ha).setReg8 r (h.peek8 ha)

theorem storeReg {a a' : Word} (ha : a' = a) (r : Reg8) : SameToPrograms (storeReg a r s) (storeReg a' r s') :=
  h.write8 ha (h.regs r)

theorem adjustHl (k : Word) : SameToPrograms (adjustHl k s) (adjustHl k s') :=
  h.setPair16 .hl (congrArg (· + k) (h.pair16 .hl))

theorem inc8Flags {v v' : Byte} (hv : v' = v) : SameToPrograms (inc8Flags v s) (inc8Flags v' s') := by
  subst hv
  exact ((((h.setFlag .z rfl).setFlag .n rfl).setFlag .h rfl).setFlag .s rfl).setFlag .pv rfl

theorem dec8Flags {v v' : Byte} (hv : v' = v) : SameToPrograms (dec8Flags v s) (dec8Flags v' s') := by
  subst hv
  exact ((((h.setFlag .z rfl).setFlag .n rfl).setFlag .h rfl).setFlag .s rfl).setFlag .pv rfl

theorem add8Flags {a a' b b' : Byte} (ha : a' = a) (hb : b' = b) :
    SameToPrograms (add8Flags a b s) (add8Flags a' b' s') := by
  subst ha hb
  exact (((((h.setFlag .z rfl).setFlag .n rfl).setFlag .h rfl).setFlag .c rfl).setFlag .s rfl).setFlag .pv rfl

theorem addHlFlags {a a' b b' : Word} (ha : a' = a) (hb : b' = b) :
    SameToPrograms (addHlFlags a b s) (addHlFlags a' b' s') := by
  subst ha hb
  exact ((h.setFlag .n rfl).setFlag .h rfl).setFlag .c rfl

theorem spAddFlags {sp sp' : Word} (hsp : sp' = sp) (e : Byte) :
    SameToPrograms (spAddFlags sp e s) (spAddFlags sp' e s') := by
  subst hsp
  exact (((h.setFlag .z rfl).setFlag .n rfl).setFlag .h rfl).setFlag .c rfl

theorem swapFlags {r r' : Byte} (hr : r' = r) : SameToPrograms (swapFlags r s) (swapFlags r' s') := by
  subst hr
  exact (((h.setFlag .z rfl).setFlag .n rfl).setFlag .h rfl).setFlag .c rfl

theorem incReg (r : Reg8) : SameToPrograms (incReg r s) (incReg r s') :=
  (h.inc8Flags (h.regs r)).setReg8 r (congrArg (· + 1) (h.regs r))

theorem decReg (r : Reg8) : SameToPrograms (decReg r s) (decReg r s') :=
  (h.dec8Flags (h.regs r)).setReg8 r (congrArg (· - 1) (h.regs r))

theorem addA {b b' : Byte} (hb : b' = b) : SameToPrograms (addA b s) (addA b' s') :=
  (h.add8Flags (h.regs .a) hb).setReg8 .a (congrArg₂ (· + ·) (h.regs .a) hb)

theorem addAMem : SameToPrograms (addAMem s) (addAMem s') :=
  (h.afterRead (h.pair16 .hl)).addA (h.peek8 (h.pair16 .hl))

theorem swapReg (r : Reg8) : SameToPrograms (swapReg r s) (swapReg r s') :=
  (h.setReg8 r (congrArg Machine.swapNibbles (h.regs r))).swapFlags (congrArg Machine.swapNibbles (h.regs r))

theorem incPair (p : Reg16) : SameToPrograms (incPair p s) (incPair p s') :=
  h.setPair16 p (congrArg (· + 1) (h.pair16 p))

theorem decPair (p : Reg16) : SameToPrograms (decPair p s) (decPair p s') :=
  h.setPair16 p (congrArg (· - 1) (h.pair16 p))

theorem addHlPair (p : Reg16) : SameToPrograms (addHlPair p s) (addHlPair p s') :=
  (h.setPair16 .hl (congrArg₂ (· + ·) (h.pair16 .hl) (h.pair16 p))).addHlFlags (h.pair16 .hl) (h.pair16 p)

theorem addSpImm (e : Byte) : SameToPrograms (addSpImm e s) (addSpImm e s') :=
  (h.setSp (congrArg (spAdd · e) h.sp)).spAddFlags h.sp e

theorem loadHlSpImm (e : Byte) : SameToPrograms (loadHlSpImm e s) (loadHlSpImm e s') :=
  (h.setPair16 .hl (congrArg (spAdd · e) h.sp)).spAddFlags h.sp e

theorem incMem : SameToPrograms (incMem s) (incMem s') := by
  have hv : s'.peek8 (s'.pair .hl) = s.peek8 (s.pair .hl) := h.peek8 (h.pair16 .hl)
  rw [incMem_eq, incMem_eq]
  exact ((h.afterRead (h.pair16 .hl)).inc8Flags hv).write8 (h.pair16 .hl) (congrArg (· + 1) hv)

theorem decMem : SameToPrograms (decMem s) (decMem s') := by
  have hv : s'.peek8 (s'.pair .hl) = s.peek8 (s.pair .hl) := h.peek8 (h.pair16 .hl)
  rw [decMem_eq, decMem_eq]
  exact ((h.afterRead (h.pair16 .hl)).dec8Flags hv).write8 (h.pair16 .hl) (congrArg (· - 1) hv)

theorem swapMem : SameToPrograms (swapMem s) (swapMem s') := by
  have hv := congrArg Machine.swapNibbles (h.peek8 (h.pair16 .hl))
  exact ((h.afterRead (h.pair16 .hl)).write8 (h.pair16 .hl) hv).swapFlags hv

theorem blockPairs : SameToPrograms (blockPairs s) (blockPairs s') := by
  have hhl := h.setPair16 .hl (congrArg (· + 1) (h.pair16 .hl))
  have hde := hhl.setPair16 .de (congrArg (· + 1) (hhl.pair16 .de))
  exact hde.setPair16 .bc (congrArg (· - 1) (hde.pair16 .bc))

theorem blockFlags : SameToPrograms (blockFlags s) (blockFlags s') :=
  ((h.setFlag .h rfl).setFlag .pv (by simp [h.pair16])).setFlag .n rfl

theorem blockMoveStep : SameToPrograms (Machine.blockMoveStep s) (Machine.blockMoveStep s') := by
  rw [blockMoveStep_eq, blockMoveStep_eq]
  exact ((h.afterRead (h.pair16 .hl)).write8 (h.pair16 .de) (h.peek8 (h.pair16 .hl))).blockPairs.blockFlags

theorem read16_fst {a a' : Word} (ha : a' = a) : (s'.read16 a').1 = (s.read16 a).1 :=
  congrArg₂ word ((h.afterRead ha).peek8 (congrArg (· + 1) ha)) (h.peek8 ha)

theorem read16_snd {a a' : Word} (ha : a' = a) : SameToPrograms (s.read16 a).2 (s'.read16 a').2 :=
  (h.afterRead ha).afterRead (congrArg (· + 1) ha)

theorem write16 {a a' w w' : Word} (ha : a' = a) (hw : w' = w) :
    SameToPrograms (s.write16 a w) (s'.write16 a' w') :=
  (h.write8 ha (congrArg loByte hw)).write8 (congrArg (· + 1) ha) (congrArg hiByte hw)

theorem loadPairMem (p : Reg16) (a : Word) : SameToPrograms (loadPairMem p a s) (loadPairMem p a s') :=
  (h.read16_snd rfl).setPair16 p (h.read16_fst rfl)

theorem callTo (nn : Word) : SameToPrograms (callTo nn s) (callTo nn s') :=
  have hsp : s'.cpu.sp - 2 = s.cpu.sp - 2 := congrArg (· - 2) h.sp
  ((h.setSp hsp).write16 hsp h.pc).setPc rfl

theorem returnFrom : SameToPrograms (returnFrom s) (returnFrom s') :=
  ((h.read16_snd h.sp).setSp (congrArg (· + 2) h.sp)).setPc (h.read16_fst h.sp)

theorem jumpRelative (e : Byte) : SameToPrograms (jumpRelative e s) (jumpRelative e s') :=
  h.setPc (congrArg (· + sext16 e) h.pc)

theorem whenCond (cc : Cond) {f : State → State} (hf : SameToPrograms (f s) (f s')) :
    SameToPrograms (whenCond cc f s) (whenCond cc f s') := by
  unfold Machine.whenCond
  rw [h.cond]
  split
  · exact hf
  · exact h

theorem ldhAddr (n : Byte) : s'.ldhAddr n = s.ldhAddr n := by
  rw [State.ldhAddr, State.ldhAddr, h.config]

/-- The address of the `(C)` forms. -/
theorem highC : highAddr (s'.reg8 .c) false = highAddr (s.reg8 .c) false :=
  congrArg (highAddr · false) (h.regs .c)

/-- An instruction reads nothing that the two states differ in. -/
theorem exec (i : Instr) : ∃ t t', exec i s = .next t ∧ exec i s' = .next t' ∧ SameToPrograms t t' := by
  cases i with
  | nop => exact ⟨_, _, rfl, rfl, h⟩
  | ldBN n | ldCN n | ldDN n | ldEN n | ldHN n | ldLN n | ldAN n => exact ⟨_, _, rfl, rfl, h.setReg8 _ rfl⟩
  | ldBHlInd | ldCHlInd | ldDHlInd | ldEHlInd | ldHHlInd | ldLHlInd | ldAHlInd | ldABcInd | ldADeInd =>
    exact ⟨_, _, rfl, rfl, h.loadReg _ (h.pair16 _)⟩
  | ldANnIndZ80 nn | ldANnIndLr nn => exact ⟨_, _, rfl, rfl, h.loadReg .a rfl⟩
  | ldhANInd n => exact ⟨_, _, rfl, rfl, h.loadReg .a (h.ldhAddr n)⟩
  | ldACInd => exact ⟨_, _, rfl, rfl, h.loadReg .a h.highC⟩
  | ldHlIndB | ldHlIndC | ldHlIndD | ldHlIndE | ldHlIndH | ldHlIndL | ldHlIndA | ldBcIndA | ldDeIndA =>
    exact ⟨_, _, rfl, rfl, h.storeReg (h.pair16 _) _⟩
  | ldHlIndN n => exact ⟨_, _, rfl, rfl, h.write8 (h.pair16 .hl) rfl⟩
  | ldNnIndAZ80 nn | ldNnIndALr nn => exact ⟨_, _, rfl, rfl, h.storeReg rfl .a⟩
  | ldhNIndA n => exact ⟨_, _, rfl, rfl, h.storeReg (h.ldhAddr n) .a⟩
  | ldCIndA => exact ⟨_, _, rfl, rfl, h.storeReg h.highC .a⟩
  | ldHlIncA | ldHlDecA => exact ⟨_, _, rfl, rfl, (h.storeReg (h.pair16 .hl) .a).adjustHl _⟩
  | ldAHlInc | ldAHlDec => exact ⟨_, _, rfl, rfl, (h.loadReg .a (h.pair16 .hl)).adjustHl _⟩
  | ldBcNn nn | ldDeNn nn | ldHlNn nn | ldSpNn nn => exact ⟨_, _, rfl, rfl, h.setPair16 _ rfl⟩
  | ldSpHl => exact ⟨_, _, rfl, rfl, h.setPair16 .sp (h.pair16 .hl)⟩
  | ldNnIndHl nn => exact ⟨_, _, rfl, rfl, h.write16 rfl (h.pair16 .hl)⟩
  | ldHlNnInd nn => exact ⟨_, _, rfl, rfl, h.loadPairMem .hl nn⟩
  | ldHlSpN e => exact ⟨_, _, rfl, rfl, h.loadHlSpImm e⟩
  | ldi => exact ⟨_, _, rfl, rfl, h.blockMoveStep⟩
  | incB | incC | incD | incE | incH | incL | incA => exact ⟨_, _, rfl, rfl, h.incReg _⟩
  | decB | decC | decD | decE | decH | decL | decA => exact ⟨_, _, rfl, rfl, h.decReg _⟩
  | incHlInd => exact ⟨_, _, rfl, rfl, h.incMem⟩
  | decHlInd => exact ⟨_, _, rfl, rfl, h.decMem⟩
  | incBc | incDe | incHl | incSp => exact ⟨_, _, rfl, rfl, h.incPair _⟩
  | decBc | decDe | decHl | decSp => exact ⟨_, _, rfl, rfl, h.decPair _⟩
  | addAB | addAC | addAD | addAE | addAH | addAL | addAA => exact ⟨_, _, rfl, rfl, h.addA (h.regs _)⟩
  | addAN n => exact ⟨_, _, rfl, rfl, h.addA rfl⟩
  | addAHlInd => exact ⟨_, _, rfl, rfl, h.addAMem⟩
  | addHlBc | addHlDe | addHlHl | addHlSp => exact ⟨_, _, rfl, rfl, h.addHlPair _⟩
  | addSpN e => exact ⟨_, _, rfl, rfl, h.addSpImm e⟩
  | swapB | swapC | swapD | swapE | swapH | swapL | swapA => exact ⟨_, _, rfl, rfl, h.swapReg _⟩
  | swapHlInd => exact ⟨_, _, rfl, rfl, h.swapMem⟩
  | jp nn => exact ⟨_, _, rfl, rfl, h.setPc rfl⟩
  | jpHlInd => exact ⟨_, _, rfl, rfl, h.setPc (h.pair16 .hl)⟩
  | jpNz nn | jpZ nn | jpNc nn | jpC nn | jpPo nn | jpPe nn | jpP nn | jpM nn =>
    exact ⟨_, _, rfl, rfl, h.whenCond _ (h.setPc rfl)⟩
  | jr e => exact ⟨_, _, rfl, rfl, h.jumpRelative e⟩
  | jrNz e | jrZ e | jrNc e | jrC e => exact ⟨_, _, rfl, rfl, h.whenCond _ (h.jumpRelative e)⟩
  | call nn => exact ⟨_, _, rfl, rfl, h.callTo nn⟩
  | callNz nn | callZ nn | callNc nn | callC nn | callPo nn | callPe nn | callP nn | callM nn =>
    exact ⟨_, _, rfl, rfl, h.whenCond _ (h.callTo nn)⟩
  | ret => exact ⟨_, _, rfl, rfl, h.returnFrom⟩
  | retNz | retZ | retNc | retC | retPo | retPe | retP | retM => exact ⟨_, _, rfl, rfl, h.whenCond _ h.returnFrom⟩
  | reti => exact ⟨_, _, rfl, rfl, h.returnFrom.setIff true true⟩
  | di => exact ⟨_, _, rfl, rfl, h.setIff false false⟩
  | ei => exact ⟨_, _, rfl, rfl, h.setEiPending true⟩
  | _ => exact ⟨_, _, rfl, rfl, h.setReg8 _ (h.regs _)⟩

/-! The step. -/

theorem readBytes {n n' : Nat} (hn : n' = n) {a a' : Word} (ha : a' = a) :
    (readBytes n' a' s').1 = (readBytes n a s).1 ∧ SameToPrograms (readBytes n a s).2 (readBytes n' a' s').2 := by
  subst hn
  induction n' generalizing a a' s s' with
  | zero => exact ⟨rfl, h⟩
  | succ n ih =>
    obtain ⟨hbytes, hstate⟩ := ih (h.afterRead ha) (congrArg (· + 1) ha)
    exact ⟨congrArg₂ List.cons (h.peek8 ha) hbytes, hstate⟩

theorem fetch : (fetch s').1 = (fetch s).1 ∧ SameToPrograms (fetch s).2 (fetch s').2 := by
  have hb : s'.peek8 s'.cpu.pc = s.peek8 s.cpu.pc := h.peek8 h.pc
  have hlen : fetchLength s'.config.variant (s'.peek8 s'.cpu.pc) - 1 =
      fetchLength s.config.variant (s.peek8 s.cpu.pc) - 1 := by rw [h.config, hb]
  obtain ⟨hbytes, hstate⟩ := (h.afterRead h.pc).readBytes hlen (congrArg (· + 1) h.pc)
  exact ⟨congrArg₂ List.cons hb hbytes, hstate⟩

theorem decode_fetch :
    decode s'.config.variant (Machine.fetch s').1 = decode s.config.variant (Machine.fetch s).1 := by
  rw [h.config, h.fetch.1]

theorem execState : SameToPrograms (execState s) (execState s') := by
  obtain ⟨hbytes, hstate⟩ := h.fetch
  exact hstate.setPc (by rw [h.pc, hbytes])

theorem errorState : SameToPrograms (errorState s) (errorState s') := by
  obtain ⟨hbytes, hstate⟩ := h.fetch
  have hend := hstate.finishEi h.eiPending
  refine ⟨hend.config, ?_, hend.schedule, hend.callReturn, hend.regs, hend.f, hend.sp, hend.pc, hend.eiPending,
    hend.mem, hend.shadowRam, hend.devLog⟩
  rw [errorState_status, errorState_status, h.pc, hbytes]

/-- A CPU step takes both states to such a pair, or stops both in one. -/
theorem cpuStep :
    (∃ t t', cpuStep s = .next t ∧ cpuStep s' = .next t' ∧ SameToPrograms t t') ∨
      ∃ t t', cpuStep s = .fault (.decodeError t) ∧ cpuStep s' = .fault (.decodeError t') ∧ SameToPrograms t t' := by
  cases hd : decode s.config.variant (Machine.fetch s).1 with
  | ok p =>
    obtain ⟨t, t', ht, ht', hsame⟩ := h.execState.exec p.1
    exact .inl ⟨_, _, cpuStep_of_exec hd ht, cpuStep_of_exec (h.decode_fetch.trans hd) ht', hsame.finishEi h.eiPending⟩
  | error e => exact .inr ⟨_, _, cpuStep_of_reject hd, cpuStep_of_reject (h.decode_fetch.trans hd), h.errorState⟩

/-- Both states give the CPU the turn in the same way. -/
theorem cpuTurn {u : State} (hturn : CpuTurn s u) : ∃ u', CpuTurn s' u' ∧ SameToPrograms u u' := by
  cases hturn with
  | idle hrun hcall hsch =>
    exact ⟨s', .idle (h.status.trans hrun) (h.callReturn.trans hcall) (h.schedule.trans hsch), h⟩
  | scheduled rest hrun hcall hsch =>
    exact ⟨_, .scheduled rest (h.status.trans hrun) (h.callReturn.trans hcall) (h.schedule.trans hsch),
      ⟨h.config, h.status, rfl, h.callReturn, h.regs, h.f, h.sp, h.pc, h.eiPending, h.mem, h.shadowRam, h.devLog⟩⟩
  | inCall pc0 hrun hcall hpc =>
    exact ⟨s', .inCall pc0 (h.status.trans hrun) (h.callReturn.trans hcall) (by rwa [h.pc]), h⟩

end SameToPrograms

/-- Settles O15: both take the CPU's turn, from states that no program tells apart. -/
theorem channelsAndInertRegistersAreInvisible : Obligations.ChannelsAndInertRegistersAreInvisible := by
  unfold Obligations.ChannelsAndInertRegistersAreInvisible
  intro s s' u h hturn
  obtain ⟨u', hturn', hu⟩ := h.cpuTurn hturn
  rw [step_of_cpuTurn hturn, step_of_cpuTurn hturn']
  rcases hu.cpuStep with ⟨t, t', ht, ht', hsame⟩ | ⟨t, t', ht, ht', hsame⟩
  · rw [ht, ht']
    refine ⟨fun x hx => ?_, fun x hx => (nomatch hx)⟩
    cases hx
    exact ⟨t', rfl, hsame⟩
  · rw [ht, ht']
    refine ⟨fun x hx => (nomatch hx), fun x hx => ?_⟩
    cases hx
    exact ⟨t', rfl, hsame⟩

end Sys2Proof.Stated

/-! The views of the registers, the owner of an address, and registration (`10_state.md` R22, R27; `20_memory.md` R61 to
R69, R79). -/

namespace Sys2Proof.Stated

open Sys2Proof.Machine

/-- Settles O3: the tables by evaluation. -/
theorem sourceOpcodesDecode : Obligations.SourceOpcodesDecode := by
  unfold Obligations.SourceOpcodesDecode
  exact ⟨fun n nn => ⟨rfl, rfl, rfl, rfl, rfl, rfl, rfl, rfl, rfl, rfl, rfl, rfl⟩, rfl⟩

/-- Writing a pair splits the word, and the pair reads back whole. -/
theorem split_word (w : Word) :
    (hiByte w).toNat = w.toNat / 256 ∧ (loByte w).toNat = w.toNat % 256 ∧ word (hiByte w) (loByte w) = w :=
  ⟨toNat_hiByte w, toNat_loByte w, word_hiByte_loByte w⟩

/-- Settles O18: a pair is the word of its two bytes, and writing it splits the word. -/
theorem pairsShareStorageWithBytes : Obligations.PairsShareStorageWithBytes := by
  unfold Obligations.PairsShareStorageWithBytes
  exact fun s => ⟨toNat_word _ _, toNat_word _ _, toNat_word _ _, toNat_word _ _, split_word, split_word, split_word⟩

/-- Settles O20: each condition reads a flag, and each flag its bit. -/
theorem conditionsReadTheirFlag : Obligations.ConditionsReadTheirFlag := by
  unfold Obligations.ConditionsReadTheirFlag
  intro s
  refine ⟨fun hv => ?_, fun hv => ?_⟩ <;> simp [State.cond, State.flag, hv, flagBit]

/-! Registration (`20_memory.md` R61, R62). -/

theorem overlaps_iff (x y : Registration) : x.overlaps y = true ↔ x.first ≤ y.last ∧ y.first ≤ x.last := by
  simp [Registration.overlaps]

/-- Whether two ranges overlap does not depend on which comes first. -/
theorem overlaps_comm (x y : Registration) : x.overlaps y = y.overlaps x := by
  rw [Registration.overlaps, Registration.overlaps, Bool.and_comm]

theorem register_error_iff (ps : List Registration) (x : Registration) :
    (∃ r, register ps x = .error r) ↔ ∃ y ∈ ps, y.overlaps x = true := by
  unfold register
  rw [← List.find?_isSome]
  cases ps.find? fun y => y.overlaps x with
  | none => simp
  | some y => simp

theorem register_ok_iff {ps qs : List Registration} {x : Registration} :
    register ps x = .ok qs ↔ qs = ps ++ [x] ∧ ∀ y ∈ ps, y.overlaps x = false := by
  unfold register
  cases h : ps.find? fun y => y.overlaps x with
  | none =>
    rw [List.find?_eq_none] at h
    simp only [Except.ok.injEq, Bool.not_eq_true] at h ⊢
    exact ⟨fun e => ⟨e.symm, h⟩, fun e => e.1.symm⟩
  | some y =>
    have hy := List.find?_some h
    have hmem := List.mem_of_find?_eq_some h
    simp only [reduceCtorEq, false_iff, not_and, not_forall]
    exact fun _ => ⟨y, hmem, by simpa using hy⟩

/-- Registering a list on a bus with disjoint ranges succeeds exactly if all ranges together are disjoint. -/
theorem registerAll_ok_iff {ps rest qs : List Registration} (hps : disjointRanges ps) :
    registerAll ps rest = .ok qs ↔ qs = ps ++ rest ∧ disjointRanges (ps ++ rest) := by
  induction rest generalizing ps with
  | nil => simp [registerAll, hps, eq_comm]
  | cons x rest ih =>
    have happ : ps ++ x :: rest = (ps ++ [x]) ++ rest := by simp
    cases hreg : register ps x with
    | ok ps' =>
      obtain ⟨rfl, hnone⟩ := register_ok_iff.1 hreg
      have hdis : disjointRanges (ps ++ [x]) := by
        rw [disjointRanges, List.pairwise_append]
        exact ⟨hps, List.pairwise_singleton _ x, by simpa using hnone⟩
      rw [registerAll, hreg, happ]
      exact ih hdis
    | error r =>
      obtain ⟨y, hy, hover⟩ := (register_error_iff ps x).1 ⟨r, hreg⟩
      have hnot : ¬ disjointRanges (ps ++ x :: rest) := by
        rw [disjointRanges, List.pairwise_append]
        rintro ⟨-, -, hcross⟩
        have := hcross y hy x (List.mem_cons_self ..)
        rw [hover] at this
        cases this
      rw [registerAll, hreg]
      exact ⟨fun h => (nomatch h), fun h => absurd h.2 hnot⟩

/-- Settles O23: `register` looks for an overlap, and a list is registered entry by entry. -/
theorem registrationFailsExactlyOnOverlap : Obligations.RegistrationFailsExactlyOnOverlap := by
  unfold Obligations.RegistrationFailsExactlyOnOverlap
  refine ⟨fun ps x => ?_, fun ps qs => registerAll_ok_iff List.Pairwise.nil⟩
  simp only [register_error_iff, overlaps_iff]

/-! The owner of an address (`20_memory.md` R62 to R65). -/

theorem owns_iff (x : Registration) (a : Word) : owns x a = true ↔ x.first ≤ a ∧ a ≤ x.last := by
  simp [owns]

/-- Disjoint ranges that share an address are one registration. -/
theorem eq_of_owns {ps : List Registration} (hps : disjointRanges ps) {x y : Registration} (hx : x ∈ ps) (hy : y ∈ ps)
    {a : Word} (hxa : owns x a = true) (hya : owns y a = true) : x = y := by
  rw [owns_iff] at hxa hya
  by_contra hne
  have hsymm : Std.Symm fun u v : Registration => u.overlaps v = false :=
    ⟨fun u v h => by rw [overlaps_comm]; exact h⟩
  have hdis := hps.forall hx hy hne
  have hover : x.overlaps y = true := (overlaps_iff x y).2 ⟨BitVec.le_trans hxa.1 hya.2, BitVec.le_trans hya.1 hxa.2⟩
  rw [hover] at hdis
  cases hdis

theorem ownerOf_of_range {c : Config} (hc : disjointRanges c.peripherals) {x : Registration} (hx : x ∈ c.peripherals)
    {a : Word} (hfirst : x.first ≤ a) (hlast : a ≤ x.last) : ownerOf c a = some x.device := by
  have hxa : owns x a = true := (owns_iff x a).2 ⟨hfirst, hlast⟩
  unfold ownerOf
  cases hf : c.peripherals.find? fun y => owns y a with
  | none => exact absurd hxa (List.find?_eq_none.1 hf x hx)
  | some y =>
    have hya : owns y a = true := by simpa using List.find?_some hf
    rw [eq_of_owns hc hx (List.mem_of_find?_eq_some hf) hxa hya]
    rfl

theorem ownerOf_eq_none {c : Config} {a : Word} (h : ∀ x ∈ c.peripherals, ¬ (x.first ≤ a ∧ a ≤ x.last)) :
    ownerOf c a = none := by
  rw [ownerOf, Option.map_eq_none_iff, List.find?_eq_none]
  exact fun x hx ho => h x hx ((owns_iff x a).1 ho)

/-! What an access to each kind of owner does. -/

theorem write8_dropped {s : State} {a : Word} (v : Byte)
    (h : ownerOf s.config a = none ∨ ownerOf s.config a = some .rom) : s.write8 a v = s := by
  rw [State.write8, Bus.write8_dropped s.bus v h]

theorem afterRead_of_owner {s : State} {a : Word} {o : Option Device} (h : ownerOf s.config a = o)
    (ho : ∀ id, o ≠ some (.platform id)) : s.afterRead a = s :=
  State.afterRead_of_notPlatform fun id => by rw [h]; exact ho id

theorem history_cons_same (b : Bus) (id : Nat) (a : Word) (w : Option Byte) :
    Bus.history { b with devLog := { device := id, addr := a, written := w } :: b.devLog } id =
      { device := id, addr := a, written := w } :: b.history id := by
  simp [Bus.history]

theorem history_cons_other (b : Bus) {id other : Nat} (a : Word) (w : Option Byte) (h : other ≠ id) :
    Bus.history { b with devLog := { device := id, addr := a, written := w } :: b.devLog } other = b.history other := by
  simp [Bus.history, h.symm]

theorem write8_bus_of_platform {s : State} {a : Word} {id : Nat} (v : Byte)
    (h : ownerOf s.config a = some (.platform id)) :
    (s.write8 a v).bus =
      { s.bus with devLog := { device := id, addr := a, written := some v } :: s.bus.devLog } := by
  simp [Bus.write8, h]

theorem afterRead_bus_of_platform {s : State} {a : Word} {id : Nat} (h : ownerOf s.config a = some (.platform id)) :
    (s.afterRead a).bus =
      { s.bus with devLog := { device := id, addr := a, written := none } :: s.bus.devLog } := by
  simp [Bus.afterRead, h]

theorem write8_bus_of_apu {s : State} {a : Word} (v : Byte) (h : ownerOf s.config a = some .apu) :
    (s.write8 a v).bus = { s.bus with apu := s.bus.apu.write a v } := by
  simp [Bus.write8, h]

theorem write8_bus_of_ram {s : State} {a : Word} (v : Byte) (h : ownerOf s.config a = some .ram) :
    (s.write8 a v).bus = { s.bus with mem := s.bus.mem.write a.toNat v } := by
  simp [Bus.write8, h]

/-- Settles O21: the owner by the lookup, and each owner's accesses by their own laws. -/
theorem byteAccessesReachTheOwner : Obligations.ByteAccessesReachTheOwner := by
  unfold Obligations.ByteAccessesReachTheOwner
  intro s a v
  refine ⟨fun hdis x hx => ownerOf_of_range hdis hx, ownerOf_eq_none, ⟨rfl, rfl, rfl⟩, fun h => ?_, fun h => ?_,
    fun h => ?_, fun h => ?_, fun id h => ?_⟩
  · exact ⟨by simp [State.peek8, Bus.peek8, h], write8_dropped v (.inl h), afterRead_of_owner h (by simp)⟩
  · have hpeek := State.peek8_write8_of_ram h v
    rw [write8_bus_of_ram v h]
    exact ⟨by rw [hpeek, if_pos rfl], afterRead_of_owner h (by simp),
      fun x hx => by rw [hpeek, if_neg hx], rfl, rfl⟩
  · exact ⟨by simp [State.peek8, Bus.peek8, h], write8_dropped v (.inr h), afterRead_of_owner h (by simp)⟩
  · rw [write8_bus_of_apu v h]
    exact ⟨by simp [State.peek8, Bus.peek8, h], afterRead_of_owner h (by simp), rfl, rfl, rfl⟩
  · rw [write8_bus_of_platform v h, afterRead_bus_of_platform h]
    exact ⟨by simp [State.peek8, Bus.peek8, h], history_cons_same _ _ _ _, history_cons_same _ _ _ _,
      fun other ho => ⟨history_cons_other _ _ _ ho, history_cons_other _ _ _ ho⟩, rfl, rfl, rfl, rfl⟩

end Sys2Proof.Stated

/-! The host's turn (`10_state.md` R37, `60_exceptions.md` R267, R283, `70_reset_and_hazards.md` R325). -/

namespace Sys2Proof.Stated

open Sys2Proof.Machine

/-- Settles O47: the host's turn takes its entry off the schedule and performs its one action. -/
theorem hostMutatorsWriteOneRegister : Obligations.HostMutatorsWriteOneRegister := by
  unfold Obligations.HostMutatorsWriteOneRegister
  intro s rest a w v hrun hcall
  refine ⟨step_of_host hrun hcall, step_of_host hrun hcall, step_of_host hrun hcall, step_of_host hrun hcall,
    step_of_host hrun hcall, step_of_host hrun hcall, fun hsch lo hi hw => ?_⟩
  rw [step_of_host hrun hcall hsch, State.perform, eq_word_of_toNat hw, State.write16_word]
  rfl

/-- No operation of a CPU step writes the fields by which the model keeps a run's turns. -/
theorem turns_closed (r : Option Word) (l : List Turn) :
    Closed (fun s => s.callReturn = r ∧ s.schedule = l) where
  setReg8 s q v h := by simpa using h
  setPair16 s p w h := by simpa using h
  setFlag s fl b h := by simpa using h
  setPc s w h := h
  setIff s b h := h
  setEiPending s b h := h
  afterRead s a h := h
  write8 s a v h := h

/-- Settles O48: the call is a push and a jump, and from then on PC is tested before each CPU step. -/
theorem hostCallRunsUntilPcReturns : Obligations.HostCallRunsUntilPcReturns := by
  unfold Obligations.HostCallRunsUntilPcReturns
  refine ⟨fun s rest addr hrun hcall hsch => ⟨_, step_of_host hrun hcall hsch, rfl, rfl, rfl, rfl⟩,
    fun s pc0 hrun hcall => ⟨fun hpc => by simp [step, takeTurn, hrun, hcall, hpc], fun hpc => ?_⟩⟩
  have hstep := step_of_inCall hrun hcall hpc
  refine ⟨hstep, fun t ht => ?_⟩
  rw [hstep] at ht
  exact (turns_closed _ _).cpuStep ⟨hcall, rfl⟩ ht

/-! The tick. -/

theorem clock256hz_of_present {s : State} (h : apuPresent s.config = true) :
    s.clock256hz = { s with bus := { s.bus with apu := s.bus.apu.clock256hz } } := if_pos h

theorem clock256hz_of_absent {s : State} (h : apuPresent s.config = false) : s.clock256hz = s :=
  if_neg (by simp [h])

/-- A tick moves no byte a program can read: the shadow bytes stay (`60_exceptions.md` R288). -/
theorem peek8_clock256hz (s : State) (a : Word) : s.clock256hz.peek8 a = s.peek8 a := by
  cases h : apuPresent s.config with
  | true =>
    rw [clock256hz_of_present h]
    simp only [State.peek8, Bus.peek8, Apu.read, Apu.clock256hz_shadow, Bus.history]
  | false => rw [clock256hz_of_absent h]

theorem clock256hz_bus_mem (s : State) : s.clock256hz.bus.mem = s.bus.mem := by
  unfold State.clock256hz; split <;> rfl

theorem clock256hz_bus_devLog (s : State) : s.clock256hz.bus.devLog = s.bus.devLog := by
  unfold State.clock256hz; split <;> rfl

/-- Settles O49: the host's turn with the tick, by the tick's own laws. -/
theorem tickChangesApuOnly : Obligations.TickChangesApuOnly := by
  unfold Obligations.TickChangesApuOnly
  intro s rest hrun hcall hsch
  refine ⟨_, step_of_host hrun hcall hsch, State.clock256hz_cpu _, clock256hz_bus_mem _, clock256hz_bus_devLog _,
    State.clock256hz_schedule _, peek8_clock256hz { s with schedule := rest }, fun h => ?_, fun h => ?_⟩
  · exact congrArg (·.bus.apu) (clock256hz_of_present (s := { s with schedule := rest }) h)
  · exact congrArg (·.bus.apu) (clock256hz_of_absent (s := { s with schedule := rest }) h)

end Sys2Proof.Stated

/-! The APU: length and control registers, sweep, envelope, sequencer and outputs (`60_exceptions.md` R273 to R286). -/

namespace Sys2Proof.Machine

/-! Register writes. -/

/-- `DDLL LLLL` with its fields as numbers (R278, D20). -/
theorem Pulse.writeDutyLength_eq (p : Pulse) (v : Byte) :
    p.writeDutyLength v =
      { p with duty := BitVec.ofNat 2 (v.toNat / 64), lengthLoad := BitVec.ofNat 6 (v.toNat % 64),
               lengthCounter := BitVec.ofNat 7 (64 - v.toNat % 64) } := by
  have hduty : v.extractLsb' 6 2 = BitVec.ofNat 2 (v.toNat / 64) := BitVec.eq_of_toNat_eq (toNat_bitField v 6 2)
  have hload : v.extractLsb' 0 6 = BitVec.ofNat 6 (v.toNat % 64) :=
    BitVec.eq_of_toNat_eq (by rw [toNat_lowBits]; simp)
  have hcounter : 64 - (v.extractLsb' 0 6).setWidth 7 = BitVec.ofNat 7 (64 - v.toNat % 64) := by revert v; decide
  rw [Pulse.writeDutyLength, hcounter, hduty, hload]

theorem Apu.write_ff11 (u : Apu) (v : Byte) :
    u.write 0xFF11 v = { u.setShadow 0xFF11 v with pulse1 := u.pulse1.writeDutyLength v } := rfl

theorem Apu.write_ff16 (u : Apu) (v : Byte) :
    u.write 0xFF16 v = { u.setShadow 0xFF16 v with pulse2 := u.pulse2.writeDutyLength v } := rfl

/-- Settles O52: each write is that of the shadow byte and of one channel's duty and length fields. -/
theorem lengthRegisterWrites : Obligations.LengthRegisterWrites := by
  unfold Obligations.LengthRegisterWrites
  exact fun u v => ⟨⟨_, u.write_ff11 v, u.pulse1.writeDutyLength_eq v, rfl, rfl, rfl⟩,
    ⟨_, u.write_ff16 v, u.pulse2.writeDutyLength_eq v, rfl, rfl, rfl⟩⟩

/-- The dispatch reads the other frequency register, which the write to this one leaves as it was (R281). -/
theorem Apu.write_ff14 (u : Apu) (v : Byte) :
    u.write 0xFF14 v = { u.setShadow 0xFF14 v with pulse1 := u.pulse1.writeControl (u.read 0xFF13) v } := by
  rw [← u.read_setShadow_of_ne v (show (0xFF13 : Word) ≠ 0xFF14 by decide)]
  rfl

theorem Apu.write_ff19 (u : Apu) (v : Byte) :
    u.write 0xFF19 v = { u.setShadow 0xFF19 v with pulse2 := u.pulse2.writeControl (u.read 0xFF18) v } := by
  rw [← u.read_setShadow_of_ne v (show (0xFF18 : Word) ≠ 0xFF19 by decide)]
  rfl

/-- `TL-- -FFF` with its bits as numbers (R281). -/
theorem Pulse.writeControl_eq (p : Pulse) (lo v : Byte) :
    p.writeControl lo v =
      (let q : Pulse := { p with frequency := BitVec.ofNat 11 (v.toNat % 8 * 256 + lo.toNat) }
       { (if v.toNat ≥ 128 then q.trigger else q) with lengthEnable := decide (v.toNat / 64 % 2 = 1) }) := by
  have htrigger : v.getLsbD 7 = decide (v.toNat ≥ 128) := by revert v; decide
  have henable : v.getLsbD 6 = decide (v.toNat / 64 % 2 = 1) := by revert v; decide
  simp only [Pulse.writeControl, composeFrequency, htrigger, henable, decide_eq_true_eq]

/-- Settles O55: each write is that of the shadow byte and of one channel's control fields. -/
theorem controlRegisterWrites : Obligations.ControlRegisterWrites := by
  unfold Obligations.ControlRegisterWrites
  exact fun u v => ⟨⟨_, u.write_ff14 v, u.pulse1.writeControl_eq _ v, rfl, rfl, rfl⟩,
    ⟨_, u.write_ff19 v, u.pulse2.writeControl_eq _ v, rfl, rfl, rfl⟩⟩

/-! The sweep (R285, D22). -/

theorem Sweep.calc_eq (w : Sweep) (x : Nat) :
    w.calc x = if w.negate then x - x / 2 ^ w.shift.toNat else x + x / 2 ^ w.shift.toNat := by
  rw [Sweep.calc, Nat.shiftRight_eq_div_pow]

theorem Sweep.tick_of_idle {w : Sweep} (p : Pulse) (h : w.period = 0 ∨ w.shift = 0) : w.tick p = p := by
  rcases h with h | h <;> simp [Sweep.tick, h]

theorem Sweep.tick_of_above {w : Sweep} {p : Pulse} (hp : w.period ≠ 0) (hs : w.shift ≠ 0)
    (h : 2047 < w.calc p.frequency.toNat) : w.tick p = { p with enabled := false } := by
  rw [Sweep.tick, if_pos ⟨hp, hs⟩]
  exact if_pos h

theorem Sweep.tick_of_below {w : Sweep} {p : Pulse} (hp : w.period ≠ 0) (hs : w.shift ≠ 0)
    (h : w.calc p.frequency.toNat ≤ 2047) :
    w.tick p = { p with frequency := BitVec.ofNat 11 (w.calc p.frequency.toNat),
                        enabled := p.enabled && decide (w.calc (w.calc p.frequency.toNat) ≤ 2047) } := by
  rw [Sweep.tick, if_pos ⟨hp, hs⟩]
  simp only [gt_iff_lt, Nat.not_lt.2 h, if_false]
  by_cases h2 : 2047 < w.calc (w.calc p.frequency.toNat)
  · simp [h2, Nat.not_le.2 h2]
  · simp [h2, Nat.not_lt.1 h2]

/-- With `sweep_negate` a move never rises. -/
theorem Sweep.calc_le_of_negate {w : Sweep} (h : w.negate = true) (x : Nat) : w.calc x ≤ x := by
  rw [Sweep.calc, if_pos h]
  exact Nat.sub_le _ _

theorem Sweep.tick_of_negate {w : Sweep} (p : Pulse) (h : w.negate = true) :
    (w.tick p).enabled = p.enabled ∧ (w.tick p).frequency.toNat ≤ p.frequency.toNat := by
  by_cases hidle : w.period = 0 ∨ w.shift = 0
  · rw [Sweep.tick_of_idle p hidle]
    exact ⟨rfl, Nat.le_refl _⟩
  · rw [not_or] at hidle
    have hfreq := p.frequency.isLt
    have hmove := Sweep.calc_le_of_negate h p.frequency.toNat
    have hagain := Sweep.calc_le_of_negate h (w.calc p.frequency.toNat)
    have hlimit : w.calc (w.calc p.frequency.toNat) ≤ 2047 := by omega
    rw [Sweep.tick_of_below hidle.1 hidle.2 (by omega)]
    refine ⟨by simp [hlimit], ?_⟩
    exact (BitVec.toNat_ofNat ..).trans_le ((Nat.mod_le _ _).trans hmove)

/-- Settles O57: the cases of the tick, with the move as a number. -/
theorem sweepTickMovesFrequency : Obligations.SweepTickMovesFrequency := by
  unfold Obligations.SweepTickMovesFrequency
  intro w p
  simp only [← Sweep.calc_eq]
  exact ⟨Sweep.tick_of_idle p, Sweep.tick_of_above, Sweep.tick_of_below, Sweep.tick_of_negate p⟩

/-! The envelope (R286, D21). -/

/-- The volume moves by one and stops at 0 and at 15. -/
theorem Pulse.stepVolume_eq (p : Pulse) :
    p.stepVolume =
      { p with
        volume := BitVec.ofNat 4 (if p.envelopeAddMode then min 15 (p.volume.toNat + 1) else p.volume.toNat - 1) } := by
  have hup : ∀ n : BitVec 4, BitVec.ofNat 4 (min 15 (n.toNat + 1)) = if n < 15 then n + 1 else n := by decide
  have hdown : ∀ n : BitVec 4, BitVec.ofNat 4 (n.toNat - 1) = if n > 0 then n - 1 else n := by decide
  by_cases hmode : p.envelopeAddMode = true
  · simp only [Pulse.stepVolume, if_pos hmode, hup]
    split <;> rfl
  · simp only [Pulse.stepVolume, if_neg hmode, hdown]
    split <;> rfl

theorem Pulse.envelopeTick_of_zero {p : Pulse} (h : p.envelopePeriod = 0) : p.envelopeTick = p := by
  simp [Pulse.envelopeTick, h]

/-- A counter above 1 counts down and does not expire. -/
theorem Pulse.envelopeTick_of_counting {p : Pulse} (hp : p.envelopePeriod ≠ 0) (hc : 1 < p.envelopeCounter.toNat) :
    p.envelopeTick = { p with envelopeCounter := p.envelopeCounter - 1 } := by
  have hzero : p.envelopeCounter ≠ 0 := by bv_omega
  have hone : p.envelopeCounter - 1 ≠ 0 := by bv_omega
  simp only [Pulse.envelopeTick, hp, hzero, hone, ne_eq, not_false_eq_true, if_true, if_false]

/-- A counter at 1 or 0 expires: it is reloaded and the volume moves. -/
theorem Pulse.envelopeTick_of_expiring {p : Pulse} (hp : p.envelopePeriod ≠ 0) (hc : p.envelopeCounter.toNat ≤ 1) :
    p.envelopeTick = { p with envelopeCounter := p.envelopePeriod }.stepVolume := by
  have hcase : p.envelopeCounter = 0 ∨ p.envelopeCounter = 1 := by bv_omega
  rw [Pulse.envelopeTick, if_pos hp]
  rcases hcase with h | h <;> simp [h]

/-- Settles O58: the cases of the tick, with counter and volume as numbers. -/
theorem envelopeTickStepsVolume : Obligations.EnvelopeTickStepsVolume := by
  unfold Obligations.EnvelopeTickStepsVolume
  intro p
  refine ⟨Pulse.envelopeTick_of_zero, fun hp hc => ?_, fun hp hc => ?_⟩
  · have hdown : BitVec.ofNat 3 (p.envelopeCounter.toNat - 1) = p.envelopeCounter - 1 := by bv_omega
    rw [Pulse.envelopeTick_of_counting hp hc, hdown]
  · rw [Pulse.envelopeTick_of_expiring hp hc, Pulse.stepVolume_eq]

/-! The frame sequencer (R283, D23). -/

theorem Apu.clock256hz_of_length {u : Apu} (h1 : u.seqIndex ≠ 1) (h3 : u.seqIndex ≠ 3) :
    u.clock256hz =
      { u with pulse1 := u.pulse1.lengthTick, pulse2 := u.pulse2.lengthTick, seqIndex := u.seqIndex + 1 } := by
  simp only [Apu.clock256hz, h1, h3, or_self, if_false]

theorem Apu.clock256hz_of_sweep {u : Apu} (h : u.seqIndex = 1) :
    u.clock256hz = { u with pulse1 := u.sweep.tick u.pulse1.lengthTick, pulse2 := u.pulse2.lengthTick,
                            seqIndex := u.seqIndex + 1 } := by
  simp [Apu.clock256hz, h]

theorem Apu.clock256hz_of_envelope {u : Apu} (h : u.seqIndex = 3) :
    u.clock256hz = { u with pulse1 := (u.sweep.tick u.pulse1.lengthTick).envelopeTick,
                            pulse2 := u.pulse2.lengthTick.envelopeTick, seqIndex := u.seqIndex + 1 } := by
  simp [Apu.clock256hz, h]

theorem Apu.clock256hz_seqIndex (u : Apu) : u.clock256hz.seqIndex = u.seqIndex + 1 := rfl

theorem Apu.clock256hz_sweep (u : Apu) : u.clock256hz.sweep = u.sweep := by
  unfold Apu.clock256hz; dsimp only; split <;> split <;> rfl

/-- Settles O59: the three kinds of tick by the index. -/
theorem sequencerDerivesItsClocks : Obligations.SequencerDerivesItsClocks := by
  unfold Obligations.SequencerDerivesItsClocks
  intro u
  refine ⟨?_, u.clock256hz_shadow, u.clock256hz_sweep, fun h => ?_, fun h => ?_, fun h => ?_⟩
  · rw [Apu.clock256hz_seqIndex, BitVec.toNat_add]
    rfl
  · have h1 : u.seqIndex ≠ 1 := fun e => by rw [e] at h; revert h; decide
    have h3 : u.seqIndex ≠ 3 := fun e => by rw [e] at h; revert h; decide
    rw [Apu.clock256hz_of_length h1 h3]
    exact ⟨rfl, rfl⟩
  · rw [Apu.clock256hz_of_sweep (BitVec.eq_of_toNat_eq h)]
    exact ⟨rfl, rfl⟩
  · rw [Apu.clock256hz_of_envelope (BitVec.eq_of_toNat_eq h)]
    exact ⟨rfl, rfl⟩

/-! The outputs (R273). -/

theorem Pulse.outAmplitude_of_enabled {p : Pulse} (h : p.enabled = true) : p.outAmplitude = p.volume := if_pos h

theorem Pulse.outAmplitude_of_disabled {p : Pulse} (h : p.enabled = false) : p.outAmplitude = 0 :=
  if_neg (by simp [h])

/-- Settles O60: the raw outputs are the channel's fields, and the sink's are functions of them held to its ranges. -/
theorem outputsFollowTheChannel : Obligations.OutputsFollowTheChannel := by
  unfold Obligations.OutputsFollowTheChannel
  intro p
  obtain ⟨hlow, hhigh⟩ := unitRange_mem (Config.sinkLevel p.outAmplitude)
  refine ⟨Pulse.outAmplitude_of_enabled, Pulse.outAmplitude_of_disabled, rfl, rfl, rfl, rfl, rfl, hlow, hhigh,
    positiveHz_pos _, fun q hq => ?_, fun q hq => ?_⟩
  · rw [Pulse.sinkAmplitude, hq, Pulse.sinkAmplitude]
  · rw [Pulse.sinkFrequency, hq, Pulse.sinkFrequency]

end Sys2Proof.Machine
